-- ==== Sys2Proof/Word.lean ====
section
/-! DEFINITION. The widths of the AP instruction set (spec/00_scope.md, section 4 and section 5). -/

namespace Sys2Proof

/-- An instruction word, "the sole wire representation" (R6, R30). -/
abbrev Word := BitVec 32

/-- A register index; every value 0 to 31 is legal (R10, R11). -/
abbrev RegIx := BitVec 5

/-- A width code (Load, Store) or a function code (Math), 3 bits (R41). -/
abbrev Code3 := BitVec 3

/-- A Load or Store offset, 12 bits unsigned (R38, R39). -/
abbrev Offset := BitVec 12

/-- A Constant value, 20 bits unsigned (R40). -/
abbrev Value := BitVec 20

/-- A piece of text of the boundary layer, as its characters (log 11). -/
abbrev Text := List Char

end Sys2Proof
end

