-- ==== Sys2Proof/Syntax.lean ====
section
/-! DEFINITION. The instructions, formats, breakdowns, errors and encoder calls of the spec, as data. -/

namespace Sys2Proof

/-- The four formats (spec/00_scope.md section 5, R33). -/
inductive Format where
  | load | store | math | constant
  deriving DecidableEq, Repr

/-- The closed list of typed errors (R170).
The InvalidFormat, UnknownFunction and UnknownRegister of the source are the first, fifth and fourth (C5). -/
inductive ErrorKind where
  | unknownFormat
  | outOfRange
  | malformedOperand
  | unknownRegisterName
  | unknownFunctionName
  | invalidArgumentCount
  deriving DecidableEq, Repr

/-- The four text errors, which alone arise in the text layer (R171's "raised by" column, R175). -/
inductive TextErrorKind where
  | malformedOperand
  | unknownRegisterName
  | unknownFunctionName
  | invalidArgumentCount
  deriving DecidableEq, Repr, Inhabited

/-- `Result(T) = Ok(T) | Err(ErrorKind)` (spec/00_scope.md section 5).
An error carries no field of the result: "no partially-populated output" (R172). -/
inductive Result (α : Type) where
  | ok (value : α)
  | err (kind : ErrorKind)
  deriving DecidableEq, Repr

/-- Apply a function to the value of a result. -/
def Result.map {α β : Type} (f : α → β) : Result α → Result β
  | .ok a => .ok (f a)
  | .err e => .err e

/-- Go on with the value of a result, or end with its error. -/
def Result.bind {α β : Type} (r : Result α) (f : α → Result β) : Result β :=
  match r with
  | .ok a => f a
  | .err e => .err e

/-- Whether a result is a value. -/
def Result.isOk {α : Type} : Result α → Bool
  | .ok _ => true
  | .err _ => false

/-- The decoded breakdown, one arm per format (spec/00_scope.md section 5). -/
inductive Breakdown where
  | load (width : Code3) (dest base : RegIx) (offset : Offset)
  | store (width : Code3) (base source : RegIx) (offset : Offset)
  | math (function : Code3) (operandA operandB dest : RegIx)
  | constant (value : Value) (dest : RegIx)
  deriving DecidableEq, Repr

/-- The inputs of ENC, its six ports (R102, D3). -/
structure EncCall where
  fmt : BitVec 2
  f3 : BitVec 32
  rd : BitVec 32
  rs1 : BitVec 32
  rs2 : BitVec 32
  imm : BitVec 32
  deriving DecidableEq, Repr

/-- The instructions of spec/opcode_table.json, one constructor per row, operands in the order of the
text form (R50).
An instruction is what DEC reads of a word: the bits no DEC operation reads are not part of it (R43, R47). -/
inductive Instr where
  | lb (dest base : RegIx) (offset : Offset)
  | lh (dest base : RegIx) (offset : Offset)
  | lw (dest base : RegIx) (offset : Offset)
  | loadWidth3 (dest base : RegIx) (offset : Offset)
  | lbu (dest base : RegIx) (offset : Offset)
  | lhu (dest base : RegIx) (offset : Offset)
  | loadWidth6 (dest base : RegIx) (offset : Offset)
  | loadWidth7 (dest base : RegIx) (offset : Offset)
  | sb (source base : RegIx) (offset : Offset)
  | sh (source base : RegIx) (offset : Offset)
  | sw (source base : RegIx) (offset : Offset)
  | storeWidth3 (source base : RegIx) (offset : Offset)
  | sbu (source base : RegIx) (offset : Offset)
  | shu (source base : RegIx) (offset : Offset)
  | storeWidth6 (source base : RegIx) (offset : Offset)
  | storeWidth7 (source base : RegIx) (offset : Offset)
  | add (dest operandA operandB : RegIx)
  | sll (dest operandA operandB : RegIx)
  | slt (dest operandA operandB : RegIx)
  | sltu (dest operandA operandB : RegIx)
  | xor (dest operandA operandB : RegIx)
  | srl (dest operandA operandB : RegIx)
  | or (dest operandA operandB : RegIx)
  | and (dest operandA operandB : RegIx)
  | lui (dest : RegIx) (value : Value)
  deriving DecidableEq, Repr

end Sys2Proof
end

