-- ==== Sys2Proof/Config.lean ====
section
/-! DEFINITION. What stays open of the block and its boundary: the free values and the parameters (R9, D8).
The constants the source fixes stand where they are used, in Decode.lean. -/

namespace Sys2Proof

/-- The value on DEC's `fmt` output for a word of no format, which the spec calls "not meaningful" (R82).
A free value: it depends on the word alone, since DEC is combinational (log 5). -/
opaque Config.fmtWhenInvalid : Word → BitVec 2

/-- The error `encode_text` gives for a line with no token at all, which R162 does not state.
A free value among the four text errors, the kinds R171 and R175 leave to the text layer (log 12). -/
opaque Config.emptyLineError : TextErrorKind

/-- The three name tables, a parameter of the boundary layer (R16, R151, R152, R153, D8).
`widthText` is a map, because its storage layout is not the block's concern (C8). -/
structure NameTables where
  regName : List Text
  funcName : List Text
  widthText : List (Nat × Text)
  deriving DecidableEq, Repr

/-- What the spec leaves open of the display helpers (R164, U12): the text between two groups of four bits, the
letter case of hexadecimal digits, and the least number of digits written, any number of them (log 21). -/
structure DisplayStyle where
  separator : Text
  upperCase : Bool
  minDigits : Nat
  deriving DecidableEq, Repr

end Sys2Proof
end

