-- ==== Sys2Proof/Decode.lean ====
section
/-! DEFINITION. The decoder unit DEC (spec/40_decoder_ops.md), the encoder unit ENC (spec/41_encoder_ops.md), and the
instruction decoder and encoder made of them. -/

namespace Sys2Proof

/-! ### The format tag and the error codes -/

/-- The format tag on `fmt`: 0 Load, 1 Store, 2 Math, 3 Constant (R82, R102, D2). -/
def Format.code : Format → BitVec 2
  | .load => 0
  | .store => 1
  | .math => 2
  | .constant => 3

/-- The format a tag names; "All four values of `fmt` are legal" (R102). -/
def Format.ofCode (c : BitVec 2) : Format :=
  if c = 0 then .load else if c = 1 then .store else if c = 2 then .math else .constant

/-- The error numbers of the port view (R171, D6); 0 means no error. -/
def ErrorKind.code : ErrorKind → BitVec 3
  | .unknownFormat => 1
  | .outOfRange => 2
  | .malformedOperand => 3
  | .unknownRegisterName => 4
  | .unknownFunctionName => 5
  | .invalidArgumentCount => 6

/-- A text error as one of the six kinds (R170, R175). -/
def TextErrorKind.kind : TextErrorKind → ErrorKind
  | .malformedOperand => .malformedOperand
  | .unknownRegisterName => .unknownRegisterName
  | .unknownFunctionName => .unknownFunctionName
  | .invalidArgumentCount => .invalidArgumentCount

/-! ### DEC: opcode and format -/

/-- Logical shift right, mask, narrow: the shape of every extraction formula (R60 to R75). -/
def fieldAt (n : Nat) (word : Word) (shift : Nat) (mask : Word) : BitVec n :=
  ((word >>> shift) &&& mask).setWidth n

/-- R60, R31. -/
def Dec.extractOpcode (word : Word) : BitVec 5 := fieldAt 5 word 2 0x1F

/-- R61. -/
def Dec.classify (word : Word) : Result Format :=
  let op := Dec.extractOpcode word
  if op = 0x00 then .ok .load
  else if op = 0x08 then .ok .store
  else if op = 0x0C then .ok .math
  else if op = 0x0D then .ok .constant
  else .err .unknownFormat

/-! ### DEC: the fourteen field extractors, total over all words (R77) -/

/-- R62. -/
def Dec.getLoadWidth (word : Word) : Code3 := fieldAt 3 word 12 0x7

/-- R63. -/
def Dec.getLoadDest (word : Word) : RegIx := fieldAt 5 word 7 0x1F

/-- R64. -/
def Dec.getLoadBase (word : Word) : RegIx := fieldAt 5 word 15 0x1F

/-- R65, R38: zero-extended, never negative. -/
def Dec.getLoadOffset (word : Word) : Offset := fieldAt 12 word 20 0xFFF

/-- R66. -/
def Dec.getStoreWidth (word : Word) : Code3 := fieldAt 3 word 12 0x7

/-- R67. -/
def Dec.getStoreBase (word : Word) : RegIx := fieldAt 5 word 15 0x1F

/-- R68. -/
def Dec.getStoreSource (word : Word) : RegIx := fieldAt 5 word 20 0x1F

/-- R69, R39: the split offset, high seven bits at [31:25], low five at [11:7]. -/
def Dec.getStoreOffset (word : Word) : Offset :=
  let hi := (word >>> 25) &&& 0x7F#32
  let lo := (word >>> 7) &&& 0x1F#32
  ((hi <<< 5) ||| lo).setWidth 12

/-- R70. -/
def Dec.getMathFunction (word : Word) : Code3 := fieldAt 3 word 12 0x7

/-- R71. -/
def Dec.getMathOperandA (word : Word) : RegIx := fieldAt 5 word 15 0x1F

/-- R72. -/
def Dec.getMathOperandB (word : Word) : RegIx := fieldAt 5 word 20 0x1F

/-- R73. -/
def Dec.getMathDest (word : Word) : RegIx := fieldAt 5 word 7 0x1F

/-- R74, R40: unsigned, a logical shift (D4, log 6). -/
def Dec.getConstantValue (word : Word) : Value := (word >>> 12).setWidth 20

/-- R75. -/
def Dec.getConstantDest (word : Word) : RegIx := fieldAt 5 word 7 0x1F

/-! ### DEC: decode -/

/-- R76: one classification and one field-extraction pass. -/
def Dec.decode (word : Word) : Result Breakdown :=
  match Dec.classify word with
  | .err e => .err e
  | .ok .load =>
    .ok (.load (getLoadWidth word) (getLoadDest word) (getLoadBase word) (getLoadOffset word))
  | .ok .store =>
    .ok (.store (getStoreWidth word) (getStoreBase word) (getStoreSource word) (getStoreOffset word))
  | .ok .math =>
    .ok (.math (getMathFunction word) (getMathOperandA word) (getMathOperandB word) (getMathDest word))
  | .ok .constant =>
    .ok (.constant (getConstantValue word) (getConstantDest word))

/-- The width codes that have a width text: 0, 1, 2, 4, 5 (R23, R81, C2). -/
def widthCodeValid (code : Code3) : Bool :=
  code = 0 || code = 1 || code = 2 || code = 4 || code = 5

/-- The output `width_valid`, driven for every word (R81, R82). -/
def Dec.widthValid (word : Word) : Bool := widthCodeValid (fieldAt 3 word 12 0x7)

/-- The width check of `decode_checked` on a breakdown: only Load and Store have a width (R81). -/
def Dec.checkWidth (b : Breakdown) : Result Breakdown :=
  match b with
  | .load width _ _ _ => if widthCodeValid width then .ok b else .err .outOfRange
  | .store width _ _ _ => if widthCodeValid width then .ok b else .err .outOfRange
  | .math _ _ _ _ => .ok b
  | .constant _ _ => .ok b

/-- R81: UnknownFormat is decided first (R176). -/
def Dec.decodeChecked (word : Word) : Result Breakdown :=
  (Dec.decode word).bind Dec.checkWidth

/-! ### ENC: the packing functions, on 32-bit inputs (R90 to R94, D3) -/

/-- R90. -/
def Enc.encodeLoad (width dest base offset : BitVec 32) : Word :=
  let w := width &&& 0x7
  let d := dest &&& 0x1F
  let b := base &&& 0x1F
  let o := offset &&& 0xFFF
  (o <<< 20) ||| (b <<< 15) ||| (w <<< 12) ||| (d <<< 7) ||| 0x03

/-- R91, R39. -/
def Enc.encodeStore (width base source offset : BitVec 32) : Word :=
  let w := width &&& 0x7
  let b := base &&& 0x1F
  let s := source &&& 0x1F
  let imm11_5 := (offset >>> 5) &&& 0x7F
  let imm4_0 := offset &&& 0x1F
  (imm11_5 <<< 25) ||| (s <<< 20) ||| (b <<< 15) ||| (w <<< 12) ||| (imm4_0 <<< 7) ||| 0x23

/-- R93: the test is made on the whole input, before it is masked to 3 bits (D5, log 7). -/
def Enc.mathFunct7 (function : BitVec 32) : BitVec 7 :=
  if function = 0 ∨ function = 1 ∨ function = 5 then 0x00 else 0x20

/-- R92. -/
def Enc.encodeMath (function a b dest : BitVec 32) : Word :=
  let funct7 := (Enc.mathFunct7 function).setWidth 32
  let f3 := function &&& 0x7
  let ra := a &&& 0x1F
  let rb := b &&& 0x1F
  let d := dest &&& 0x1F
  (funct7 <<< 25) ||| (rb <<< 20) ||| (ra <<< 15) ||| (f3 <<< 12) ||| (d <<< 7) ||| 0x33

/-- R94. -/
def Enc.encodeConstant (value dest : BitVec 32) : Word :=
  let v := value &&& 0xFFFFF
  let d := dest &&& 0x1F
  (v <<< 12) ||| (d <<< 7) ||| 0x37

/-- ENC's output as a function of its ports: the packing function `fmt` chooses, on the inputs it uses (R102). -/
def Enc.word (c : EncCall) : Word :=
  match Format.ofCode c.fmt with
  | .load => Enc.encodeLoad c.f3 c.rd c.rs1 c.imm
  | .store => Enc.encodeStore c.f3 c.rs1 c.rs2 c.imm
  | .math => Enc.encodeMath c.f3 c.rs1 c.rs2 c.rd
  | .constant => Enc.encodeConstant c.imm c.rd

/-- R95: dispatch on the format tag, each field zero-extended to 32 bits. -/
def Enc.encode (b : Breakdown) : Word :=
  match b with
  | .load width dest base offset =>
    Enc.encodeLoad (width.setWidth 32) (dest.setWidth 32) (base.setWidth 32) (offset.setWidth 32)
  | .store width base source offset =>
    Enc.encodeStore (width.setWidth 32) (base.setWidth 32) (source.setWidth 32) (offset.setWidth 32)
  | .math function operandA operandB dest =>
    Enc.encodeMath (function.setWidth 32) (operandA.setWidth 32) (operandB.setWidth 32) (dest.setWidth 32)
  | .constant value dest =>
    Enc.encodeConstant (value.setWidth 32) (dest.setWidth 32)

/-- The call of ENC's ports that spells a breakdown; the inputs a format ignores are 0 (R95, R102). -/
def Breakdown.call (b : Breakdown) : EncCall :=
  match b with
  | .load width dest base offset =>
    { fmt := 0, f3 := width.setWidth 32, rd := dest.setWidth 32, rs1 := base.setWidth 32, rs2 := 0,
      imm := offset.setWidth 32 }
  | .store width base source offset =>
    { fmt := 1, f3 := width.setWidth 32, rd := 0, rs1 := base.setWidth 32, rs2 := source.setWidth 32,
      imm := offset.setWidth 32 }
  | .math function operandA operandB dest =>
    { fmt := 2, f3 := function.setWidth 32, rd := dest.setWidth 32, rs1 := operandA.setWidth 32,
      rs2 := operandB.setWidth 32, imm := 0 }
  | .constant value dest =>
    { fmt := 3, f3 := 0, rd := dest.setWidth 32, rs1 := 0, rs2 := 0, imm := value.setWidth 32 }

/-- The canonical word of an accepted word, by R99's bit formula; for a word of no format, where R99 says nothing,
the word itself (no statement uses it). -/
def canon (w : Word) : Word :=
  match Dec.classify w with
  | .ok .math =>
    (w &&& 0x01FFFFFC) ||| 0x3 ||| ((Enc.mathFunct7 ((fieldAt 3 w 12 0x7).setWidth 32)).setWidth 32 <<< 25)
  | .ok _ => w ||| 0x3
  | .err _ => w

/-! ### The instructions as words -/

/-- The instruction a breakdown is: the width or function code tells a family's instructions apart
(R44, R118, R128, R138). -/
def Breakdown.instr (b : Breakdown) : Instr :=
  match b with
  | .load width dest base offset =>
    if width = 0 then .lb dest base offset
    else if width = 1 then .lh dest base offset
    else if width = 2 then .lw dest base offset
    else if width = 3 then .loadWidth3 dest base offset
    else if width = 4 then .lbu dest base offset
    else if width = 5 then .lhu dest base offset
    else if width = 6 then .loadWidth6 dest base offset
    else .loadWidth7 dest base offset
  | .store width base source offset =>
    if width = 0 then .sb source base offset
    else if width = 1 then .sh source base offset
    else if width = 2 then .sw source base offset
    else if width = 3 then .storeWidth3 source base offset
    else if width = 4 then .sbu source base offset
    else if width = 5 then .shu source base offset
    else if width = 6 then .storeWidth6 source base offset
    else .storeWidth7 source base offset
  | .math function operandA operandB dest =>
    if function = 0 then .add dest operandA operandB
    else if function = 1 then .sll dest operandA operandB
    else if function = 2 then .slt dest operandA operandB
    else if function = 3 then .sltu dest operandA operandB
    else if function = 4 then .xor dest operandA operandB
    else if function = 5 then .srl dest operandA operandB
    else if function = 6 then .or dest operandA operandB
    else .and dest operandA operandB
  | .constant value dest => .lui dest value

/-- The breakdown of an instruction (R110 to R117, R120 to R127, R130 to R137, R140). -/
def Instr.breakdown (i : Instr) : Breakdown :=
  match i with
  | .lb dest base offset => .load 0 dest base offset
  | .lh dest base offset => .load 1 dest base offset
  | .lw dest base offset => .load 2 dest base offset
  | .loadWidth3 dest base offset => .load 3 dest base offset
  | .lbu dest base offset => .load 4 dest base offset
  | .lhu dest base offset => .load 5 dest base offset
  | .loadWidth6 dest base offset => .load 6 dest base offset
  | .loadWidth7 dest base offset => .load 7 dest base offset
  | .sb source base offset => .store 0 base source offset
  | .sh source base offset => .store 1 base source offset
  | .sw source base offset => .store 2 base source offset
  | .storeWidth3 source base offset => .store 3 base source offset
  | .sbu source base offset => .store 4 base source offset
  | .shu source base offset => .store 5 base source offset
  | .storeWidth6 source base offset => .store 6 base source offset
  | .storeWidth7 source base offset => .store 7 base source offset
  | .add dest operandA operandB => .math 0 operandA operandB dest
  | .sll dest operandA operandB => .math 1 operandA operandB dest
  | .slt dest operandA operandB => .math 2 operandA operandB dest
  | .sltu dest operandA operandB => .math 3 operandA operandB dest
  | .xor dest operandA operandB => .math 4 operandA operandB dest
  | .srl dest operandA operandB => .math 5 operandA operandB dest
  | .or dest operandA operandB => .math 6 operandA operandB dest
  | .and dest operandA operandB => .math 7 operandA operandB dest
  | .lui dest value => .constant value dest

/-- The instruction a word spells, or the error that names why it spells none (R44, R45). -/
def decode (word : Word) : Result Instr := (Dec.decode word).map Breakdown.instr

/-- The canonical word of an instruction, the one ENC produces (R52, R118, R128, R138, R140). -/
def encode (i : Instr) : Word := Enc.encode i.breakdown

/-- The instruction of a word given as a number, bit 0 its least significant bit (R21, R30); a number that does not
fit one word is no instruction (log 20). -/
def decodeTableWord (_nbits w : Nat) : Option Instr :=
  if w < 2 ^ 32 then
    match decode (BitVec.ofNat 32 w) with
    | .ok i => some i
    | .err _ => none
  else none

/-! ### The opcode map (R44) -/

/-- One row of the opcode map: what DEC tests, and what every word ENC produces for the row satisfies. -/
structure OpRow where
  decodeMatch : Word
  decodeMask : Word
  canonMatch : Word
  canonMask : Word
  deriving DecidableEq, Repr

/-- The row of a word is decided by DEC's test `w & mask == match` (R44). -/
def OpRow.hits (r : OpRow) (w : Word) : Bool := w &&& r.decodeMask = r.decodeMatch

/-- A word satisfies the row's canonical columns (R44). -/
def OpRow.hitsCanonical (r : OpRow) (w : Word) : Bool := w &&& r.canonMask = r.canonMatch

/-- The rows of R44, one per instruction. -/
def Instr.row (i : Instr) : OpRow :=
  match i with
  | .lb _ _ _ => ⟨0x00000000, 0x0000707C, 0x00000003, 0x0000707F⟩
  | .lh _ _ _ => ⟨0x00001000, 0x0000707C, 0x00001003, 0x0000707F⟩
  | .lw _ _ _ => ⟨0x00002000, 0x0000707C, 0x00002003, 0x0000707F⟩
  | .loadWidth3 _ _ _ => ⟨0x00003000, 0x0000707C, 0x00003003, 0x0000707F⟩
  | .lbu _ _ _ => ⟨0x00004000, 0x0000707C, 0x00004003, 0x0000707F⟩
  | .lhu _ _ _ => ⟨0x00005000, 0x0000707C, 0x00005003, 0x0000707F⟩
  | .loadWidth6 _ _ _ => ⟨0x00006000, 0x0000707C, 0x00006003, 0x0000707F⟩
  | .loadWidth7 _ _ _ => ⟨0x00007000, 0x0000707C, 0x00007003, 0x0000707F⟩
  | .sb _ _ _ => ⟨0x00000020, 0x0000707C, 0x00000023, 0x0000707F⟩
  | .sh _ _ _ => ⟨0x00001020, 0x0000707C, 0x00001023, 0x0000707F⟩
  | .sw _ _ _ => ⟨0x00002020, 0x0000707C, 0x00002023, 0x0000707F⟩
  | .storeWidth3 _ _ _ => ⟨0x00003020, 0x0000707C, 0x00003023, 0x0000707F⟩
  | .sbu _ _ _ => ⟨0x00004020, 0x0000707C, 0x00004023, 0x0000707F⟩
  | .shu _ _ _ => ⟨0x00005020, 0x0000707C, 0x00005023, 0x0000707F⟩
  | .storeWidth6 _ _ _ => ⟨0x00006020, 0x0000707C, 0x00006023, 0x0000707F⟩
  | .storeWidth7 _ _ _ => ⟨0x00007020, 0x0000707C, 0x00007023, 0x0000707F⟩
  | .add _ _ _ => ⟨0x00000030, 0x0000707C, 0x00000033, 0xFE00707F⟩
  | .sll _ _ _ => ⟨0x00001030, 0x0000707C, 0x00001033, 0xFE00707F⟩
  | .slt _ _ _ => ⟨0x00002030, 0x0000707C, 0x40002033, 0xFE00707F⟩
  | .sltu _ _ _ => ⟨0x00003030, 0x0000707C, 0x40003033, 0xFE00707F⟩
  | .xor _ _ _ => ⟨0x00004030, 0x0000707C, 0x40004033, 0xFE00707F⟩
  | .srl _ _ _ => ⟨0x00005030, 0x0000707C, 0x00005033, 0xFE00707F⟩
  | .or _ _ _ => ⟨0x00006030, 0x0000707C, 0x40006033, 0xFE00707F⟩
  | .and _ _ _ => ⟨0x00007030, 0x0000707C, 0x40007033, 0xFE00707F⟩
  | .lui _ _ => ⟨0x00000034, 0x0000007C, 0x00000037, 0x0000007F⟩

end Sys2Proof
end

