-- ==== Sys2Proof/Machine/State.lean ====
section
/-! DEFINITION. The wires of DEC and ENC as plain data. The block itself holds no state (R6, R10 to R16): the fields are
the inputs the caller drives and the results of the evaluation (log 1). -/

namespace Sys2Proof.Machine

/-- DEC's outputs, port by port (R82). -/
structure DecOut where
  opcode : BitVec 5
  fmtValid : Bool
  fmt : BitVec 2
  err : BitVec 3
  f3 : Code3
  rd : RegIx
  rs1 : RegIx
  rs2 : RegIx
  ldOffset : Offset
  stOffset : Offset
  cValue : Value
  widthValid : Bool
  deriving DecidableEq, Repr

/-- The inputs and the results of one evaluation. -/
structure State where
  /-- DEC's input (R82). -/
  word : Word
  /-- ENC's inputs (R102). -/
  encIn : EncCall
  /-- DEC's outputs (R82). -/
  dec : DecOut
  /-- ENC's output (R102). -/
  encWord : Word
  /-- The result of `decode` (R76). -/
  decoded : Result Breakdown
  /-- The result of `decode_checked` (R81). -/
  checked : Result Breakdown
  /-- The word `encode` gives back for the breakdown (R95, R99), or decode's error. -/
  recoded : Result Word
  deriving DecidableEq, Repr

/-- Why a step could stop with a fault: nothing. "Nothing traps, no control is transferred, no state is saved or
changed, the block does not stop" (R172).
There is no constructor, so no meaning can raise a fault (log 14). -/
inductive Fault where
  deriving DecidableEq, Repr

/-- Why an instruction could be refused. -/
inductive Refusal where
  /-- An instruction of the opcode table that has no meaning yet, raised only by an arm of exec.
  Safe: the machine stops where the block goes on.
  No arm raises it, since every instruction has its meaning. -/
  | notModelled (mnemonic : String)
  deriving DecidableEq, Repr

/-- The machine before any evaluation: every input bit 0 (DESIGN CHOICE, log 3), every output the function of the inputs
that R18, R190 and D13 give, written out. -/
def State.reset : State where
  word := 0x00000000
  encIn := { fmt := 0, f3 := 0, rd := 0, rs1 := 0, rs2 := 0, imm := 0 }
  dec :=
    { opcode := 0, fmtValid := true, fmt := 0, err := 0, f3 := 0, rd := 0, rs1 := 0, rs2 := 0,
      ldOffset := 0, stOffset := 0, cValue := 0, widthValid := true }
  encWord := 0x00000003
  decoded := .ok (.load 0 0 0 0)
  checked := .ok (.load 0 0 0 0)
  recoded := .ok 0x00000003

end Sys2Proof.Machine
end

