-- ==== Sys2Proof/Machine/Flags.lean ====
section
/-! DEFINITION. DEC's status outputs. The block has no flags (R13): these are outputs of one evaluation. -/

namespace Sys2Proof.Machine

/-- `fmt_valid`: 1 when `classify` is `Ok` (R82). -/
def portFmtValid (word : Word) : Bool :=
  match Dec.classify word with
  | .ok _ => true
  | .err _ => false

/-- `fmt`: the format's tag; for a word of no format "not meaningful", a free value (R82, log 5). -/
def portFmt (word : Word) : BitVec 2 :=
  match Dec.classify word with
  | .ok f => f.code
  | .err _ => Config.fmtWhenInvalid word

/-- `err`: 0 when a format is known, else the error's code (R82, R171). -/
def portErr (word : Word) : BitVec 3 :=
  match Dec.classify word with
  | .ok _ => 0
  | .err e => e.code

/-- `width_valid`: the width test on word[14:12] of any word (R81, R82). -/
def portWidthValid (word : Word) : Bool := Dec.widthValid word

end Sys2Proof.Machine
end

