-- ==== Sys2Proof/Machine/Operands.lean ====
section
/-! DEFINITION. The operand forms: DEC's raw field outputs, driven for every word whatever its format (R77, R78, R82),
and the operands as ENC's ports take them (R102, D3). -/

namespace Sys2Proof.Machine

/-- `f3`: word[14:12], the width or function code (R78, R82). -/
def portF3 (word : Word) : Code3 := Dec.getLoadWidth word

/-- `rd`: word[11:7], dest, or the Store offset's low part (R78, R82). -/
def portRd (word : Word) : RegIx := Dec.getLoadDest word

/-- `rs1`: word[19:15], base or operand_a (R78, R82). -/
def portRs1 (word : Word) : RegIx := Dec.getLoadBase word

/-- `rs2`: word[24:20], source or operand_b (R78, R82). -/
def portRs2 (word : Word) : RegIx := Dec.getStoreSource word

/-- `ld_offset` (R65, R82). -/
def portLdOffset (word : Word) : Offset := Dec.getLoadOffset word

/-- `st_offset` (R69, R82). -/
def portStOffset (word : Word) : Offset := Dec.getStoreOffset word

/-- `c_value` (R74, R82). -/
def portCValue (word : Word) : Value := Dec.getConstantValue word

/-- A signed or unbounded operand on a 32-bit input: its two's-complement form modulo 2^32 (R42, D3). -/
def inputOfInt (x : Int) : BitVec 32 := BitVec.ofInt 32 x

end Sys2Proof.Machine
end

