-- ==== Sys2Proof/Machine/Ops.lean ====
section
/-! DEFINITION. The shared operations: driving the inputs, settling the ports, delivering a result or a typed error. -/

namespace Sys2Proof.Machine

/-- The outcome type of every meaning. -/
abbrev StepResult := Host.Outcome State Fault Refusal

/-- The caller drives DEC's input (R12, R27). -/
def State.setWord (s : State) (word : Word) : State := { s with word := word }

/-- The caller drives ENC's inputs (R102). -/
def State.setCall (s : State) (call : EncCall) : State := { s with encIn := call }

/-- The word DEC evaluates: its input; nothing is fetched (R12, R27). -/
def fetchWord (s : State) : Word := s.word

/-- DEC's outputs as functions of the word alone (R82). -/
def decPorts (word : Word) : DecOut where
  opcode := Dec.extractOpcode word
  fmtValid := portFmtValid word
  fmt := portFmt word
  err := portErr word
  f3 := portF3 word
  rd := portRd word
  rs1 := portRs1 word
  rs2 := portRs2 word
  ldOffset := portLdOffset word
  stOffset := portStOffset word
  cValue := portCValue word
  widthValid := portWidthValid word

/-- Both units' ports follow their inputs (R190, D1): DEC's outputs from its word, ENC's output from its call. -/
def State.settlePorts (s : State) : State :=
  { s with dec := decPorts s.word, encWord := Enc.word s.encIn }

/-- DEC hands the caller a breakdown (R76), the checked decode its verdict (R81), and ENC the word of the
breakdown (R95). -/
def State.deliver (s : State) (b : Breakdown) : State :=
  { s with decoded := .ok b, checked := Dec.checkWidth b, recoded := .ok (Enc.encode b) }

/-- What stands in the place of taking an exception: the typed error is the result, every result field is that error,
and nothing else changes (R172, R179).
There is no return from it: the next evaluation is like every other (R172, R179). -/
def State.deliverError (s : State) (e : ErrorKind) : State :=
  { s with decoded := .err e, checked := .err e, recoded := .err e }

/-- An instruction's evaluation: its breakdown is delivered and the machine goes on. -/
def complete (b : Breakdown) (s : State) : StepResult := .next (s.deliver b)

/-- An evaluation that ends in a typed error: the machine goes on (R172). -/
def reject (e : ErrorKind) (s : State) : StepResult := .next (s.deliverError e)

end Sys2Proof.Machine
end

