-- ==== Sys2Proof/Machine/Constant.lean ====
section
/-! DEFINITION. The Constant-format instruction (spec/45_constant_format.md). -/

namespace Sys2Proof.Machine

/-- R140: `lui dst,value`; the value is the raw upper 20 bits, unsigned and not shifted (R40, D4). -/
def execLui (dest : RegIx) (value : Value) (s : State) : StepResult :=
  complete (.constant value dest) s

end Sys2Proof.Machine
end

