-- ==== Sys2Proof/Machine/Load.lean ====
section
/-! DEFINITION. The Load-format instructions (spec/42_load_format.md): the breakdown DEC returns and the word ENC packs, and no
execution (D18, log 13). -/

namespace Sys2Proof.Machine

/-- R110: `lb dst,offset(base)`, width code 0. -/
def execLb (dest base : RegIx) (offset : Offset) (s : State) : StepResult :=
  complete (.load 0 dest base offset) s

/-- R111: `lh dst,offset(base)`, width code 1. -/
def execLh (dest base : RegIx) (offset : Offset) (s : State) : StepResult :=
  complete (.load 1 dest base offset) s

/-- R112: `lw dst,offset(base)`, width code 2; no alignment check (R22). -/
def execLw (dest base : RegIx) (offset : Offset) (s : State) : StepResult :=
  complete (.load 2 dest base offset) s

/-- R115: Load with the reserved width code 3; `decode` passes it, `decode_checked` returns OutOfRange. -/
def execLoadWidth3 (dest base : RegIx) (offset : Offset) (s : State) : StepResult :=
  complete (.load 3 dest base offset) s

/-- R113: `lbu dst,offset(base)`, width code 4. -/
def execLbu (dest base : RegIx) (offset : Offset) (s : State) : StepResult :=
  complete (.load 4 dest base offset) s

/-- R114: `lhu dst,offset(base)`, width code 5. -/
def execLhu (dest base : RegIx) (offset : Offset) (s : State) : StepResult :=
  complete (.load 5 dest base offset) s

/-- R116: Load with width code 6, which has no table entry. -/
def execLoadWidth6 (dest base : RegIx) (offset : Offset) (s : State) : StepResult :=
  complete (.load 6 dest base offset) s

/-- R117: Load with width code 7, which has no table entry. -/
def execLoadWidth7 (dest base : RegIx) (offset : Offset) (s : State) : StepResult :=
  complete (.load 7 dest base offset) s

end Sys2Proof.Machine
end

