-- ==== Sys2Proof/Machine/Math.lean ====
section
/-! DEFINITION. The Math-format instructions (spec/44_math_format.md): the breakdown DEC returns and the word ENC packs; what a
function code computes is in no source (D18, log 13). -/

namespace Sys2Proof.Machine

/-- R130: function code 0; ENC gives it funct7 0x00 (R93). -/
def execAdd (dest operandA operandB : RegIx) (s : State) : StepResult :=
  complete (.math 0 operandA operandB dest) s

/-- R131: function code 1; ENC gives it funct7 0x00 (R93). -/
def execSll (dest operandA operandB : RegIx) (s : State) : StepResult :=
  complete (.math 1 operandA operandB dest) s

/-- R132: function code 2; ENC gives it funct7 0x20 (R93). -/
def execSlt (dest operandA operandB : RegIx) (s : State) : StepResult :=
  complete (.math 2 operandA operandB dest) s

/-- R133: function code 3; ENC gives it funct7 0x20 (R93). -/
def execSltu (dest operandA operandB : RegIx) (s : State) : StepResult :=
  complete (.math 3 operandA operandB dest) s

/-- R134: function code 4; ENC gives it funct7 0x20 (R93). -/
def execXor (dest operandA operandB : RegIx) (s : State) : StepResult :=
  complete (.math 4 operandA operandB dest) s

/-- R135: function code 5; ENC gives it funct7 0x00 (R93). -/
def execSrl (dest operandA operandB : RegIx) (s : State) : StepResult :=
  complete (.math 5 operandA operandB dest) s

/-- R136: function code 6; ENC gives it funct7 0x20 (R93). -/
def execOr (dest operandA operandB : RegIx) (s : State) : StepResult :=
  complete (.math 6 operandA operandB dest) s

/-- R137: function code 7; ENC gives it funct7 0x20 (R93). -/
def execAnd (dest operandA operandB : RegIx) (s : State) : StepResult :=
  complete (.math 7 operandA operandB dest) s

end Sys2Proof.Machine
end

