-- ==== Sys2Proof/Machine/Store.lean ====
section
/-! DEFINITION. The Store-format instructions (spec/43_store_format.md): the breakdown DEC returns and the word ENC packs, and no
execution (D18, log 13). -/

namespace Sys2Proof.Machine

/-- R120: `sb src,offset(base)`, width code 0. -/
def execSb (source base : RegIx) (offset : Offset) (s : State) : StepResult :=
  complete (.store 0 base source offset) s

/-- R121: `sh src,offset(base)`, width code 1. -/
def execSh (source base : RegIx) (offset : Offset) (s : State) : StepResult :=
  complete (.store 1 base source offset) s

/-- R122: `sw src,offset(base)`, width code 2. -/
def execSw (source base : RegIx) (offset : Offset) (s : State) : StepResult :=
  complete (.store 2 base source offset) s

/-- R125: Store with the reserved width code 3. -/
def execStoreWidth3 (source base : RegIx) (offset : Offset) (s : State) : StepResult :=
  complete (.store 3 base source offset) s

/-- R123: Store with width code 4, `sbu` by construction. -/
def execSbu (source base : RegIx) (offset : Offset) (s : State) : StepResult :=
  complete (.store 4 base source offset) s

/-- R124: Store with width code 5, `shu` by construction. -/
def execShu (source base : RegIx) (offset : Offset) (s : State) : StepResult :=
  complete (.store 5 base source offset) s

/-- R126: Store with width code 6, which has no table entry. -/
def execStoreWidth6 (source base : RegIx) (offset : Offset) (s : State) : StepResult :=
  complete (.store 6 base source offset) s

/-- R127: Store with width code 7, which has no table entry. -/
def execStoreWidth7 (source base : RegIx) (offset : Offset) (s : State) : StepResult :=
  complete (.store 7 base source offset) s

end Sys2Proof.Machine
end

