-- ==== Sys2Proof/Machine/Dispatch.lean ====
section
/-! DEFINITION. exec: one arm per row of spec/opcode_table.json. -/

namespace Sys2Proof.Machine

def exec (i : Instr) (s : State) : Host.Outcome State Fault Refusal :=
  match i with
  | .lb dest base offset => Sys2Proof.Machine.execLb dest base offset s
  | .lh dest base offset => Sys2Proof.Machine.execLh dest base offset s
  | .lw dest base offset => Sys2Proof.Machine.execLw dest base offset s
  | .loadWidth3 dest base offset => Sys2Proof.Machine.execLoadWidth3 dest base offset s
  | .lbu dest base offset => Sys2Proof.Machine.execLbu dest base offset s
  | .lhu dest base offset => Sys2Proof.Machine.execLhu dest base offset s
  | .loadWidth6 dest base offset => Sys2Proof.Machine.execLoadWidth6 dest base offset s
  | .loadWidth7 dest base offset => Sys2Proof.Machine.execLoadWidth7 dest base offset s
  | .sb source base offset => Sys2Proof.Machine.execSb source base offset s
  | .sh source base offset => Sys2Proof.Machine.execSh source base offset s
  | .sw source base offset => Sys2Proof.Machine.execSw source base offset s
  | .storeWidth3 source base offset => Sys2Proof.Machine.execStoreWidth3 source base offset s
  | .sbu source base offset => Sys2Proof.Machine.execSbu source base offset s
  | .shu source base offset => Sys2Proof.Machine.execShu source base offset s
  | .storeWidth6 source base offset => Sys2Proof.Machine.execStoreWidth6 source base offset s
  | .storeWidth7 source base offset => Sys2Proof.Machine.execStoreWidth7 source base offset s
  | .add dest operandA operandB => Sys2Proof.Machine.execAdd dest operandA operandB s
  | .sll dest operandA operandB => Sys2Proof.Machine.execSll dest operandA operandB s
  | .slt dest operandA operandB => Sys2Proof.Machine.execSlt dest operandA operandB s
  | .sltu dest operandA operandB => Sys2Proof.Machine.execSltu dest operandA operandB s
  | .xor dest operandA operandB => Sys2Proof.Machine.execXor dest operandA operandB s
  | .srl dest operandA operandB => Sys2Proof.Machine.execSrl dest operandA operandB s
  | .or dest operandA operandB => Sys2Proof.Machine.execOr dest operandA operandB s
  | .and dest operandA operandB => Sys2Proof.Machine.execAnd dest operandA operandB s
  | .lui dest value => Sys2Proof.Machine.execLui dest value s

end Sys2Proof.Machine
end

