-- ==== Sys2Proof/Machine/Step.lean ====
section
/-! DEFINITION. One step: both units settle on the inputs present, and DEC's classification and decode of its word are
delivered (R5, R76, R190, log 2). -/

namespace Sys2Proof.Machine

/-- One evaluation. A word that spells an instruction runs it; any other word gives its typed error as the result, and
the machine goes on (R76, R172). -/
def step (s : State) : Host.Outcome State Fault Refusal :=
  match decode (fetchWord s) with
  | .ok i => exec i s.settlePorts
  | .err e => reject e s.settlePorts

/-- The caller puts the instruction's word on DEC's input, from which the next step evaluates it (R12, R27, log 4). -/
def State.withFetchWord (s : State) (_nbits w : Nat) : State := s.setWord (BitVec.ofNat 32 w)

end Sys2Proof.Machine
end

