-- ==== Sys2Proof/Machine/Names.lean ====
section
/-! DEFINITION. The three name tables' lookups (spec/46_names_and_text.md section 1; boundary layer, outside the block,
R150). The tables are a parameter (D8, log 9). -/

namespace Sys2Proof.Machine

/-- The default register names; all but entries 0 and 31 PRESUMED by the spec (R151, G3). -/
def defaultRegNames : List Text :=
  [['z', 'e', 'r', 'o'], ['r', 'a'], ['s', 'p'], ['g', 'p'], ['t', 'p'], ['t', '0'], ['t', '1'], ['t', '2']] ++
  [['s', '0'], ['s', '1'], ['a', '0'], ['a', '1'], ['a', '2'], ['a', '3'], ['a', '4'], ['a', '5']] ++
  [['a', '6'], ['a', '7'], ['s', '2'], ['s', '3'], ['s', '4'], ['s', '5'], ['s', '6'], ['s', '7']] ++
  [['s', '8'], ['s', '9'], ['s', '1', '0'], ['s', '1', '1'], ['t', '3'], ['t', '4'], ['t', '5'], ['t', '6']]

/-- The default function names; entries 2, 3, 4, 6, 7 PRESUMED, entries 0, 1, 5 DEDUCED by the spec (R152, G4). -/
def defaultFuncNames : List Text :=
  [['a', 'd', 'd'], ['s', 'l', 'l'], ['s', 'l', 't'], ['s', 'l', 't', 'u']] ++
  [['x', 'o', 'r'], ['s', 'r', 'l'], ['o', 'r'], ['a', 'n', 'd']]

/-- The default width texts, the spec's own wording: byte, half-word, word, byte (unsigned), half-word (unsigned)
(R153, D8). -/
def defaultWidthTexts : List (Nat × Text) :=
  [(0, ['b', 'y', 't', 'e']),
   (1, ['h', 'a', 'l', 'f', '-', 'w', 'o', 'r', 'd']),
   (2, ['w', 'o', 'r', 'd']),
   (4, ['b', 'y', 't', 'e', ' ', '(', 'u', 'n', 's', 'i', 'g', 'n', 'e', 'd', ')']),
   (5, ['h', 'a', 'l', 'f', '-', 'w', 'o', 'r', 'd', ' ', '(', 'u', 'n', 's', 'i', 'g', 'n', 'e', 'd', ')'])]

/-- The default tables (D8). -/
def defaultTables : NameTables :=
  { regName := defaultRegNames, funcName := defaultFuncNames, widthText := defaultWidthTexts }

/-- An entry that must be there: the lookups below call it inside a table's range only. -/
def entryOr (x : Option Text) : Result Text :=
  match x with
  | some n => .ok n
  | none => .err .outOfRange

/-- R151. -/
def registerName (T : NameTables) (i : Nat) : Result Text :=
  if i ≥ 32 then .err .outOfRange else entryOr T.regName[i]?

/-- R152. -/
def functionName (T : NameTables) (i : Nat) : Result Text :=
  if i ≥ 8 then .err .outOfRange else entryOr T.funcName[i]?

/-- R153: the failing indices are 3 and everything from 6 up (C2, C8). -/
def widthText (T : NameTables) (i : Nat) : Result Text :=
  if i = 3 ∨ i ≥ 6 then .err .outOfRange else entryOr (T.widthText.lookup i)

end Sys2Proof.Machine
end

