-- ==== Sys2Proof/Machine/Assembler.lean ====
section
/-! DEFINITION. The text-to-field helpers and the encode entry point (spec/46_names_and_text.md sections 2 and 3, R156 to
R162, D11, D15; boundary layer, outside the block, R150). Text is a list of characters (log 11). -/

namespace Sys2Proof.Machine

/-! ### Characters and splitting -/

/-- White space (R158, R162; which characters it is, log 10). -/
def isSpace (c : Char) : Bool := c = ' ' || c = '\t' || c = '\n' || c = '\r'

/-- The delimiters that end a register name: comma, closing parenthesis, white space (R158, D15). -/
def isDelimiter (c : Char) : Bool := c = ',' || c = ')' || isSpace c

/-- The pieces of a text between the characters that `p` picks out, empty pieces among them. -/
def splitAtChars (p : Char → Bool) : Text → List Text
  | [] => [[]]
  | c :: cs =>
    if p c then [] :: splitAtChars p cs
    else
      match splitAtChars p cs with
      | [] => [[c]]
      | t :: ts => (c :: t) :: ts

/-- The text before the first `c` and the text after it, if `c` occurs. -/
def splitFirst (c : Char) : Text → Option (Text × Text)
  | [] => none
  | d :: ds =>
    if d = c then some ([], ds)
    else
      match splitFirst c ds with
      | none => none
      | some (before, after) => some (d :: before, after)

/-- R162: split on white space, then each piece on commas, and drop empty pieces. -/
def tokens (line : Text) : List Text :=
  ((splitAtChars isSpace line).flatMap (splitAtChars (fun c => c = ','))).filter (fun t => !t.isEmpty)

/-! ### Numbers (R161, D15) -/

/-- A decimal digit's value. -/
def decDigit (c : Char) : Option Nat :=
  if 48 ≤ c.toNat ∧ c.toNat ≤ 57 then some (c.toNat - 48) else none

/-- A hexadecimal digit's value, letters in either case (log 10). -/
def hexDigit (c : Char) : Option Nat :=
  if 48 ≤ c.toNat ∧ c.toNat ≤ 57 then some (c.toNat - 48)
  else if 65 ≤ c.toNat ∧ c.toNat ≤ 70 then some (c.toNat - 55)
  else if 97 ≤ c.toNat ∧ c.toNat ≤ 102 then some (c.toNat - 87)
  else none

/-- The digits after the value read so far, most significant first; any other character makes it no number. -/
def digitsFrom (base : Nat) (digit : Char → Option Nat) (acc : Nat) : Text → Option Nat
  | [] => some acc
  | c :: cs =>
    match digit c with
    | none => none
    | some d => digitsFrom base digit (acc * base + d) cs

/-- One digit or more. -/
def digits (base : Nat) (digit : Char → Option Nat) (t : Text) : Option Nat :=
  if t.isEmpty then none else digitsFrom base digit 0 t

/-- Base auto-detected: hexadecimal with the prefix `0x`, else decimal (R161). -/
def magnitude (t : Text) : Option Nat :=
  match t with
  | '0' :: 'x' :: h => digits 16 hexDigit h
  | _ => digits 10 decDigit t

/-- A number with an optional leading minus (R161). -/
def number (t : Text) : Option Int :=
  match t with
  | '-' :: m => (magnitude m).map (fun n => -(n : Int))
  | _ => (magnitude t).map (fun n => (n : Int))

/-! ### The four helpers -/

/-- R156, D15. -/
def widthFromSuffix (s : Text) : Result Code3 :=
  if s = ['b'] then .ok 0
  else if s = ['h'] then .ok 1
  else if s = ['w'] then .ok 2
  else if s = ['b', 'u'] then .ok 4
  else if s = ['h', 'u'] then .ok 5
  else .err .unknownFunctionName

/-- R157: exact match against the function table. -/
def functionFromMnemonic (T : NameTables) (s : Text) : Result Code3 :=
  match (T.funcName.take 8).idxOf? s with
  | some i => .ok (BitVec.ofNat 3 i)
  | none => .err .unknownFunctionName

/-- R158: exact match of the text before its first delimiter against the register table. -/
def registerFromName (T : NameTables) (s : Text) : Result RegIx :=
  match (T.regName.take 32).idxOf? (s.takeWhile (fun c => !isDelimiter c)) with
  | some i => .ok (BitVec.ofNat 5 i)
  | none => .err .unknownRegisterName

/-- R159: MalformedOperand before UnknownRegisterName (R176); what follows the closing parenthesis is not looked at
(log 18). -/
def parseMemOperand (T : NameTables) (s : Text) : Result (Int × RegIx) :=
  match splitFirst '(' s with
  | none => .err .malformedOperand
  | some (offText, rest) =>
    match splitFirst ')' rest with
    | none => .err .malformedOperand
    | some (regText, _) =>
      match number offText with
      | none => .err .malformedOperand
      | some off => (registerFromName T regText).map (fun r => (off, r))

/-! ### Mnemonics (R51, R160) -/

/-- What a mnemonic names: a format and its width or function code. -/
inductive Mnemonic where
  | load (width : Code3)
  | store (width : Code3)
  | math (function : Code3)
  | constant
  deriving DecidableEq, Repr

/-- The format a mnemonic selects. -/
def Mnemonic.format : Mnemonic → Format
  | .load _ => .load
  | .store _ => .store
  | .math _ => .math
  | .constant => .constant

/-- The number of tokens the format needs, the mnemonic included (R162). -/
def Mnemonic.tokenCount : Mnemonic → Nat
  | .load _ => 3
  | .store _ => 3
  | .math _ => 4
  | .constant => 3

/-- A mnemonic of letter and width suffix (R51). -/
def suffixMnemonic (s : Text) : Result Mnemonic :=
  match s with
  | 'l' :: suffix => (widthFromSuffix suffix).map .load
  | 's' :: suffix => (widthFromSuffix suffix).map .store
  | _ => .err .unknownFunctionName

/-- R160: `lui`, then the function table, then `l` and a suffix, then `s` and a suffix. -/
def sortMnemonic (T : NameTables) (s : Text) : Result Mnemonic :=
  if s = ['l', 'u', 'i'] then .ok .constant
  else
    match functionFromMnemonic T s with
    | .ok f => .ok (.math f)
    | .err _ => suffixMnemonic s

/-! ### The encode entry point (R162) -/

/-- The operands of a mnemonic, as the call of ENC they make: register indices and codes zero-extended, numbers reduced
modulo 2^32, the inputs a format ignores 0; a wrong number of tokens is InvalidArgumentCount, before any operand is read
(R162, R176). -/
def operandCall (T : NameTables) (m : Mnemonic) (ops : List Text) : Result EncCall :=
  match m, ops with
  | .load w, [dst, mem] =>
    (registerFromName T dst).bind fun d =>
    (parseMemOperand T mem).bind fun ob =>
    .ok { fmt := Format.load.code, f3 := w.setWidth 32, rd := d.setWidth 32, rs1 := ob.2.setWidth 32, rs2 := 0,
          imm := inputOfInt ob.1 }
  | .store w, [src, mem] =>
    (registerFromName T src).bind fun r =>
    (parseMemOperand T mem).bind fun ob =>
    .ok { fmt := Format.store.code, f3 := w.setWidth 32, rd := 0, rs1 := ob.2.setWidth 32, rs2 := r.setWidth 32,
          imm := inputOfInt ob.1 }
  | .math f, [dst, a, b] =>
    (registerFromName T dst).bind fun d =>
    (registerFromName T a).bind fun ra =>
    (registerFromName T b).bind fun rb =>
    .ok { fmt := Format.math.code, f3 := f.setWidth 32, rd := d.setWidth 32, rs1 := ra.setWidth 32,
          rs2 := rb.setWidth 32, imm := 0 }
  | .constant, [dst, val] =>
    (registerFromName T dst).bind fun d =>
    match number val with
    | none => .err .malformedOperand
    | some v =>
      .ok { fmt := Format.constant.code, f3 := 0, rd := d.setWidth 32, rs1 := 0, rs2 := 0, imm := inputOfInt v }
  | .load _, _ => .err .invalidArgumentCount
  | .store _, _ => .err .invalidArgumentCount
  | .math _, _ => .err .invalidArgumentCount
  | .constant, _ => .err .invalidArgumentCount

/-- The call of ENC a line spells: the mnemonic first, then the count, then the operands left to right (R162, R176). -/
def parseLine (T : NameTables) (line : Text) : Result EncCall :=
  match tokens line with
  | [] => .err Config.emptyLineError.kind
  | m :: ops => (sortMnemonic T m).bind fun k => operandCall T k ops

/-- R162, `encode_text`: the word ENC packs for the line. -/
def encodeText (T : NameTables) (line : Text) : Result Word :=
  (parseLine T line).map Enc.word

/-! ### The token at fault ("identifying which token was invalid", R162) -/

/-- The first operand the mnemonic's format cannot read. -/
def invalidOperand (T : NameTables) (m : Mnemonic) (ops : List Text) : Option Text :=
  match m, ops with
  | .load _, [r, mem] => if (registerFromName T r).isOk then some mem else some r
  | .store _, [r, mem] => if (registerFromName T r).isOk then some mem else some r
  | .math _, [d, a, b] =>
    if (registerFromName T d).isOk then if (registerFromName T a).isOk then some b else some a else some d
  | .constant, [d, v] => if (registerFromName T d).isOk then some v else some d
  | _, _ => none

/-- The token recorded with a line's error, optional in R171; none for a wrong count or an empty line (log 17). -/
def invalidToken (T : NameTables) (line : Text) : Option Text :=
  match tokens line with
  | [] => none
  | m :: ops =>
    match sortMnemonic T m with
    | .err _ => some m
    | .ok k => if (operandCall T k ops).isOk then none else invalidOperand T k ops

end Sys2Proof.Machine
end

