-- ==== Sys2Proof/Machine/Display.lean ====
section
/-! DEFINITION. The decode entry point and the display helpers (spec/46_names_and_text.md section 3, R163, R164; boundary
layer, outside the block, R150). What the spec leaves open of the display is an argument (log 21). -/

namespace Sys2Proof.Machine

/-! ### The decode entry point (R163) -/

/-- A breakdown with its indices resolved to names. -/
inductive Named where
  | load (width dest base : Text) (offset : Offset)
  | store (width base source : Text) (offset : Offset)
  | math (function operandA operandB dest : Text)
  | constant (value : Value) (dest : Text)
  deriving DecidableEq, Repr

/-- The name lookups on a breakdown's fields (R151, R152, R153, R163). -/
def resolveNames (T : NameTables) (b : Breakdown) : Result Named :=
  match b with
  | .load width dest base offset =>
    (widthText T width.toNat).bind fun w =>
    (registerName T dest.toNat).bind fun d =>
    (registerName T base.toNat).bind fun r =>
    .ok (.load w d r offset)
  | .store width base source offset =>
    (widthText T width.toNat).bind fun w =>
    (registerName T base.toNat).bind fun r =>
    (registerName T source.toNat).bind fun s =>
    .ok (.store w r s offset)
  | .math function operandA operandB dest =>
    (functionName T function.toNat).bind fun f =>
    (registerName T operandA.toNat).bind fun a =>
    (registerName T operandB.toNat).bind fun c =>
    (registerName T dest.toNat).bind fun d =>
    .ok (.math f a c d)
  | .constant value dest =>
    (registerName T dest.toNat).bind fun d =>
    .ok (.constant value d)

/-- R163, from the integer on: `decode_checked`, then the name lookups. -/
def decodeEntry (T : NameTables) (word : Word) : Result (Breakdown × Named) :=
  (Dec.decodeChecked word).bind fun b => (resolveNames T b).map fun n => (b, n)

/-! ### The display helpers (R164) -/

/-- The character of a bit. -/
def bitChar (b : Bool) : Char := if b then '1' else '0'

/-- The word's group `k` of four bits, group 0 the highest, bit 31 first. -/
def nibbleText (word : Word) (k : Nat) : Text :=
  (List.range 4).map fun j => bitChar (word.getLsbD (31 - (4 * k + j)))

/-- The 32 bits of the word, bit 31 first, in eight groups of four. -/
def binaryGroups (word : Word) : List Text := (List.range 8).map (nibbleText word)

/-- The groups with the separator between them, which the spec leaves open. -/
def binaryText (style : DisplayStyle) (word : Word) : Text :=
  List.intercalate style.separator (binaryGroups word)

/-- The character of a hexadecimal digit. -/
def hexChar (upperCase : Bool) (d : Nat) : Char :=
  if d < 10 then Char.ofNat (48 + d) else Char.ofNat ((if upperCase then 55 else 87) + d)

/-- The eight hexadecimal digits of a value, the highest first. -/
def hexDigits (word : Word) : List Nat :=
  (List.range 8).map fun k => (word.toNat / 16 ^ (7 - k)) % 16

/-- A value in hexadecimal without its leading zeros, then zeros in front up to the style's least number of digits, and
one digit at least.
DESIGN CHOICE (log 21): R164 leaves the number of digits open; the model never cuts a digit that is not a leading zero. -/
def hexText (style : DisplayStyle) (word : Word) : Text :=
  let ds := (hexDigits word).dropWhile (fun d => d = 0)
  (List.replicate (max style.minDigits 1 - ds.length) 0 ++ ds).map (hexChar style.upperCase)

/-- A field of the display: its value in hexadecimal, and its name where a table gives one. -/
structure DisplayField where
  hex : Text
  name : Option Text
  deriving DecidableEq, Repr

/-- The fields of a breakdown, widened, each with the name lookup its table gives it; an offset and a value have no table
(R151, R152, R153).
DESIGN CHOICE (log 21): R164 and N10 leave the order of the displayed fields open; the model takes the breakdown's order
(spec/00_scope.md section 5). -/
def fieldLookups (T : NameTables) (b : Breakdown) : List (Word × Option (Result Text)) :=
  match b with
  | .load width dest base offset =>
    [(width.setWidth 32, some (widthText T width.toNat)), (dest.setWidth 32, some (registerName T dest.toNat)),
     (base.setWidth 32, some (registerName T base.toNat)), (offset.setWidth 32, none)]
  | .store width base source offset =>
    [(width.setWidth 32, some (widthText T width.toNat)), (base.setWidth 32, some (registerName T base.toNat)),
     (source.setWidth 32, some (registerName T source.toNat)), (offset.setWidth 32, none)]
  | .math function operandA operandB dest =>
    [(function.setWidth 32, some (functionName T function.toNat)),
     (operandA.setWidth 32, some (registerName T operandA.toNat)),
     (operandB.setWidth 32, some (registerName T operandB.toNat)), (dest.setWidth 32, some (registerName T dest.toNat))]
  | .constant value dest =>
    [(value.setWidth 32, none), (dest.setWidth 32, some (registerName T dest.toNat))]

/-- The display of the fields, or the first lookup's error. -/
def renderFields (style : DisplayStyle) : List (Word × Option (Result Text)) → Result (List DisplayField)
  | [] => .ok []
  | (v, none) :: rest => (renderFields style rest).map fun fs => { hex := hexText style v, name := none } :: fs
  | (v, some lookup) :: rest =>
    lookup.bind fun n => (renderFields style rest).map fun fs => { hex := hexText style v, name := some n } :: fs

/-- The decoded fields of a word in hexadecimal, with the names the lookup tables give (R163, R164). -/
def displayFields (T : NameTables) (style : DisplayStyle) (word : Word) : Result (List DisplayField) :=
  (Dec.decodeChecked word).bind fun b => renderFields style (fieldLookups T b)

end Sys2Proof.Machine
end

