-- ==== Sys2Proof/Machine/Stream.lean ====
section
/-! DEFINITION. A stream of words as the caller evaluates it: one word on DEC's input before each step (R12, R27;
spec/95_test_vectors.md section 3, log 4). -/

namespace Sys2Proof.Machine

/-- The decode results of the words, in order; a step that stopped would end the stream. -/
def evalStream (s : State) : List Word → List (Result Breakdown)
  | [] => []
  | w :: ws =>
    match step (s.setWord w) with
    | .next t => t.decoded :: evalStream t ws
    | .fault _ => []
    | .refused _ => []

end Sys2Proof.Machine
end

