-- ==== Sys2Proof/WellFormed.lean ====
section
/-! DEFINITION. The spec's own notions of a well-formed thing: an encoder call within its fields' widths (R98), a
canonical word (R52), and name tables that meet their constraints (R155).
An `Instr` has no ill-formed value: its operands carry their fields' widths as types, and every value of every field is
legal (R11, R41, R46). Its check is that of the encoder call that spells it. -/

namespace Sys2Proof

/-- Every input the format uses lies within its field's width (R98: "When every input is within its field's width"). -/
def EncCall.inRange (c : EncCall) : Bool :=
  match Format.ofCode c.fmt with
  | .load => c.f3.toNat < 8 && c.rd.toNat < 32 && c.rs1.toNat < 32 && c.imm.toNat < 4096
  | .store => c.f3.toNat < 8 && c.rs1.toNat < 32 && c.rs2.toNat < 32 && c.imm.toNat < 4096
  | .math => c.f3.toNat < 8 && c.rd.toNat < 32 && c.rs1.toNat < 32 && c.rs2.toNat < 32
  | .constant => c.rd.toNat < 32 && c.imm.toNat < 1048576

/-- The encoder call that spells the instruction keeps every operand within its field (R80, R98). -/
def Instr.wellFormed (i : Instr) : Bool := i.breakdown.call.inRange

/-- A canonical word: low bits 11, a known opcode, and in Math the `funct7` of its function code (R52, D10). -/
def canonical (w : Word) : Bool :=
  w.extractLsb' 0 2 = 0b11 &&
  (w.extractLsb' 2 5 = 0x00 || w.extractLsb' 2 5 = 0x08 || w.extractLsb' 2 5 = 0x0C || w.extractLsb' 2 5 = 0x0D) &&
  (w.extractLsb' 2 5 ≠ 0x0C ||
    w.extractLsb' 25 7 =
      (if w.extractLsb' 12 3 = 0 ∨ w.extractLsb' 12 3 = 1 ∨ w.extractLsb' 12 3 = 5 then 0x00 else 0x20))

/-- The five mnemonic suffixes of a width code (R156). -/
def widthSuffixes : List Text := [['b'], ['h'], ['w'], ['b', 'u'], ['h', 'u']]

/-- The mnemonics that are not function names: `lui`, `l<suffix>`, `s<suffix>` (R155, R160). -/
def otherMnemonics : List Text :=
  ['l', 'u', 'i'] :: (widthSuffixes.map (fun s => 'l' :: s) ++ widthSuffixes.map (fun s => 's' :: s))

/-- The constraints a parameter table must meet (R155). -/
def NameTables.wf (T : NameTables) : Bool :=
  T.regName.length = 32 && T.regName[0]? = some ['z', 'e', 'r', 'o'] && T.regName[31]? = some ['t', '6'] &&
  decide T.regName.Nodup &&
  T.funcName.length = 8 && decide T.funcName.Nodup &&
  T.funcName.all (fun n => !otherMnemonics.contains n) &&
  T.widthText.map Prod.fst = [0, 1, 2, 4, 5] && decide (T.widthText.map Prod.snd).Nodup

end Sys2Proof
end

