-- ==== Sys2Proof/Safety.lean ====
section
/-! DEFINITION. What a right state of the wires is, in the spec's words rather than the step's: the results are functions
of the inputs present (R18, R190), and no result is partial (R172). -/

namespace Sys2Proof.Machine

/-- DEC's outputs are the slices and the classification R82 lists, each read off the word by its bit places;
`fmt` is fixed only when `fmtValid` is true, since R82 calls it not meaningful otherwise. -/
def DecOut.agreesWith (d : DecOut) (w : Word) : Prop :=
  d.opcode = w.extractLsb' 2 5 ∧
  d.f3 = w.extractLsb' 12 3 ∧
  d.rd = w.extractLsb' 7 5 ∧
  d.rs1 = w.extractLsb' 15 5 ∧
  d.rs2 = w.extractLsb' 20 5 ∧
  d.ldOffset = w.extractLsb' 20 12 ∧
  d.stOffset = w.extractLsb' 25 7 ++ w.extractLsb' 7 5 ∧
  d.cValue = w.extractLsb' 12 20 ∧
  (d.fmtValid = true ↔ w.extractLsb' 2 5 = 0x00 ∨ w.extractLsb' 2 5 = 0x08 ∨ w.extractLsb' 2 5 = 0x0C ∨
    w.extractLsb' 2 5 = 0x0D) ∧
  (w.extractLsb' 2 5 = 0x00 → d.fmt = 0) ∧
  (w.extractLsb' 2 5 = 0x08 → d.fmt = 1) ∧
  (w.extractLsb' 2 5 = 0x0C → d.fmt = 2) ∧
  (w.extractLsb' 2 5 = 0x0D → d.fmt = 3) ∧
  d.err = (if d.fmtValid then 0 else 1) ∧
  (d.widthValid = true ↔ w.extractLsb' 12 3 ≠ 3 ∧ w.extractLsb' 12 3 ≠ 6 ∧ w.extractLsb' 12 3 ≠ 7)

/-- The results are those of the inputs present: DEC's ports (R82), ENC's word (R102), decode (R76), the checked decode
(R81), and the canonical word (R99). -/
structure State.Settled (s : State) : Prop where
  ports : s.dec.agreesWith s.word
  packed : s.encWord = Enc.word s.encIn
  decoded_eq : s.decoded = Dec.decode s.word
  checked_eq : s.checked = Dec.decodeChecked s.word
  recoded_eq : s.recoded = (Dec.decode s.word).map (fun _ => canon s.word)

/-- No partial result: when decode fails, so do the checked decode and the round trip, with the same error, and the word
given back by a round trip is always canonical (R172, R97). -/
structure State.NoPartialResult (s : State) : Prop where
  error_whole : ∀ e, s.decoded = .err e → s.checked = .err e ∧ s.recoded = .err e
  recoded_whole : ∀ b, s.decoded = .ok b → ∃ w, s.recoded = .ok w ∧ canonical w = true
  checked_whole : ∀ b c, s.decoded = .ok b → s.checked = .ok c → c = b

/-- A safe step: the machine goes on, with settled and whole results. -/
def SafeStep (s : State) : Prop := ∃ t, step s = .next t ∧ t.Settled ∧ t.NoPartialResult

end Sys2Proof.Machine
end

