-- ==== Sys2Proof/Certificates/Slice0/Obligations.lean ====
section
/-! DEFINITION. The statements for the provers. `w.extractLsb' lo n` is the n bits of `w` from bit `lo` up, the spec's
`w[lo+n-1:lo]`; `v.setWidth n` of a wider `v` is the spec's `trunc_n(v)`; `a ++ b` is `{a, b}`. -/

open Sys2Proof Sys2Proof.Machine

/-! ### DEC -/

/-- R60, R31: the opcode is word[6:2] of every word, and nothing else of the word. -/
def Obligations.OpcodeIsBitsSixToTwo : Prop :=
  (∀ w : Word, Dec.extractOpcode w = ((w >>> 2) &&& 0x1F#32).setWidth 5) ∧
  (∀ w : Word, Dec.extractOpcode w = w.extractLsb' 2 5) ∧
  (∀ w v : Word, w.extractLsb' 2 5 = v.extractLsb' 2 5 → Dec.extractOpcode w = Dec.extractOpcode v) ∧
  Dec.extractOpcode 0x00000003 = Dec.extractOpcode 0x00000000 ∧ Dec.extractOpcode 0x00000000 = 0 ∧
  (∀ w : Word, w.extractLsb' 2 5 = 0b11111 → Dec.extractOpcode w = 0x1F) ∧
  (∀ w : Word, (Dec.extractOpcode w).toNat ≤ 0x1F) ∧
  Dec.extractOpcode 0x00C58513 = 0x04

/-- R61, R33: four opcodes name a format, the 28 others are UnknownFormat, and no other bit matters. -/
def Obligations.ClassifyFollowsTheOpcode : Prop :=
  (∀ w : Word, Dec.classify w = .ok .load ↔ w.extractLsb' 2 5 = 0x00) ∧
  (∀ w : Word, Dec.classify w = .ok .store ↔ w.extractLsb' 2 5 = 0x08) ∧
  (∀ w : Word, Dec.classify w = .ok .math ↔ w.extractLsb' 2 5 = 0x0C) ∧
  (∀ w : Word, Dec.classify w = .ok .constant ↔ w.extractLsb' 2 5 = 0x0D) ∧
  (∀ w : Word, Dec.classify w = .err .unknownFormat ↔
    w.extractLsb' 2 5 ≠ 0x00 ∧ w.extractLsb' 2 5 ≠ 0x08 ∧ w.extractLsb' 2 5 ≠ 0x0C ∧ w.extractLsb' 2 5 ≠ 0x0D) ∧
  (∀ (w : Word) (e : ErrorKind), Dec.classify w = .err e → e = .unknownFormat) ∧
  (∀ w v : Word, w.extractLsb' 2 5 = v.extractLsb' 2 5 → Dec.classify w = Dec.classify v) ∧
  ((List.range 32).filter (fun n => decide (Dec.classify (BitVec.ofNat 32 (4 * n)) = .err .unknownFormat))).length = 28 ∧
  Dec.classify 0x00000000 = .ok .load ∧ Dec.classify 0xFFFFFFFF = .err .unknownFormat ∧
  Dec.classify 0x00001537 = .ok .constant ∧ Dec.classify 0x00C58513 = .err .unknownFormat

/-- R62 to R64, R66 to R68, R70 to R73, R75, R78: the register, width and function extractors are the slices of their
table on every word, whatever its format, with each rule's example; R65, R69 and R74 (decision D4, log 6) for the offsets
and the value. -/
def Obligations.FieldExtractorsAreSlices : Prop :=
  (∀ w : Word, Dec.getLoadWidth w = w.extractLsb' 12 3 ∧ Dec.getStoreWidth w = w.extractLsb' 12 3 ∧
    Dec.getMathFunction w = w.extractLsb' 12 3) ∧
  (∀ w : Word, Dec.getLoadDest w = w.extractLsb' 7 5 ∧ Dec.getMathDest w = w.extractLsb' 7 5 ∧
    Dec.getConstantDest w = w.extractLsb' 7 5 ∧ (Dec.getStoreOffset w).extractLsb' 0 5 = w.extractLsb' 7 5) ∧
  (∀ w : Word, Dec.getLoadBase w = w.extractLsb' 15 5 ∧ Dec.getStoreBase w = w.extractLsb' 15 5 ∧
    Dec.getMathOperandA w = w.extractLsb' 15 5) ∧
  (∀ w : Word, Dec.getStoreSource w = w.extractLsb' 20 5 ∧ Dec.getMathOperandB w = w.extractLsb' 20 5) ∧
  (∀ w : Word, Dec.getLoadOffset w = w.extractLsb' 20 12 ∧
    (Dec.getStoreOffset w).extractLsb' 5 7 = w.extractLsb' 25 7 ∧ Dec.getConstantValue w = w.extractLsb' 12 20) ∧
  Dec.getLoadWidth 0x00812503 = 2 ∧ Dec.getLoadDest 0x00812503 = 10 ∧ Dec.getLoadBase 0x00812503 = 2 ∧
  Dec.getStoreWidth 0x00A12423 = 2 ∧ Dec.getStoreBase 0x00A12423 = 2 ∧ Dec.getStoreSource 0x00A12423 = 10 ∧
  Dec.getMathFunction 0x40C5F533 = 7 ∧ Dec.getMathOperandA 0x002081B3 = 1 ∧ Dec.getMathOperandB 0x002081B3 = 2 ∧
  Dec.getMathOperandB 0x40C585B3 = 12 ∧ Dec.getMathDest 0x002081B3 = 3 ∧ Dec.getConstantDest 0x00001537 = 10

/-- R65, R38: the Load offset is word[31:20], unsigned and never sign-extended. -/
def Obligations.LoadOffsetIsUnsigned : Prop :=
  (∀ w : Word, Dec.getLoadOffset w = ((w >>> 20) &&& 0xFFF#32).setWidth 12 ∧
    Dec.getLoadOffset w = w.extractLsb' 20 12 ∧ (Dec.getLoadOffset w).toNat = w.toNat / 2 ^ 20 ∧
    (Dec.getLoadOffset w).toNat ≤ 4095) ∧
  (∀ w : Word, w.getLsbD 31 = true → 2048 ≤ (Dec.getLoadOffset w).toNat) ∧
  Dec.getLoadOffset 0xFFC12503 = 0xFFC ∧ Dec.getLoadOffset 0x80010083 = 0x800 ∧ Dec.getLoadOffset 0x00812503 = 8

/-- R69, R39: the Store offset joins word[31:25] and word[11:7]. -/
def Obligations.StoreOffsetJoinsItsHalves : Prop :=
  (∀ w : Word, Dec.getStoreOffset w = w.extractLsb' 25 7 ++ w.extractLsb' 7 5) ∧
  (∀ w : Word, (Dec.getStoreOffset w).toNat = (w.extractLsb' 25 7).toNat * 32 + (w.extractLsb' 7 5).toNat) ∧
  (∀ w : Word, (Dec.getStoreOffset w).toNat ≤ 4095) ∧
  (∀ w : Word, w.extractLsb' 7 5 = 0 → (Dec.getStoreOffset w).toNat % 32 = 0) ∧
  (∀ w : Word, w.extractLsb' 25 7 = 0 → (Dec.getStoreOffset w).toNat ≤ 31) ∧
  Dec.getStoreOffset 0xFEA12E23 = 4092 ∧ Dec.getStoreOffset 0x7E629023 = 0x7E0 ∧
  Dec.getStoreOffset 0x00629FA3 = 0x1F ∧ Dec.getStoreOffset 0xAAA12E23 = 0xABC

/-- R74 and its committed policy D4 (log 6): the Constant value is word[31:12], unsigned and not shifted. -/
def Obligations.ConstantValueIsUnsigned : Prop :=
  (∀ w : Word, Dec.getConstantValue w = w.extractLsb' 12 20 ∧ (Dec.getConstantValue w).toNat = w.toNat / 2 ^ 12 ∧
    (Dec.getConstantValue w).toNat ≤ 0xFFFFF) ∧
  (∀ w : Word, (Dec.getConstantValue w).getLsbD 19 = w.getLsbD 31) ∧
  Dec.getConstantValue 0x800000B7 = 0x80000 ∧ Dec.getConstantValue 0xFFFFF037 = 0xFFFFF ∧
  Dec.getConstantValue 0x00001537 = 1

/-- R76: decode is one classification and the fields of its format, and fails only with UnknownFormat. -/
def Obligations.DecodeIsOneClassificationAndItsFields : Prop :=
  (∀ w : Word, Dec.classify w = .ok .load → Dec.decode w =
    .ok (.load (w.extractLsb' 12 3) (w.extractLsb' 7 5) (w.extractLsb' 15 5) (w.extractLsb' 20 12))) ∧
  (∀ w : Word, Dec.classify w = .ok .store → Dec.decode w =
    .ok (.store (w.extractLsb' 12 3) (w.extractLsb' 15 5) (w.extractLsb' 20 5)
      (w.extractLsb' 25 7 ++ w.extractLsb' 7 5))) ∧
  (∀ w : Word, Dec.classify w = .ok .math → Dec.decode w =
    .ok (.math (w.extractLsb' 12 3) (w.extractLsb' 15 5) (w.extractLsb' 20 5) (w.extractLsb' 7 5))) ∧
  (∀ w : Word, Dec.classify w = .ok .constant → Dec.decode w =
    .ok (.constant (w.extractLsb' 12 20) (w.extractLsb' 7 5))) ∧
  (∀ (w : Word) (e : ErrorKind), Dec.decode w = .err e ↔ Dec.classify w = .err e) ∧
  (∀ (w : Word) (e : ErrorKind), Dec.decode w = .err e → e = .unknownFormat) ∧
  Dec.decode 0x00000000 = .ok (.load 0 0 0 0) ∧
  Dec.decode 0x00001537 = .ok (.constant 1 10) ∧
  Dec.decode 0x002081B3 = .ok (.math 0 1 2 3) ∧
  Dec.decode 0x0000007F = .err .unknownFormat

/-- R79, R43: the bits decode ignores cannot change its result, and decode is injective on canonical words. -/
def Obligations.DecodeIgnoresTheBitsItDoesNotRead : Prop :=
  (∀ (w : Word) (f : Format), Dec.classify w = .ok f →
    Dec.decode w = Dec.decode (w ||| 0x3) ∧ Dec.decode w = Dec.decode (w &&& 0xFFFFFFFC)) ∧
  (∀ w : Word, Dec.classify w = .ok .math → Dec.decode w = Dec.decode (w &&& 0x01FFFFFF)) ∧
  (∀ (w v : Word) (f : Format), Dec.classify w = .ok f → w &&& 0xFFFFFFFC = v &&& 0xFFFFFFFC →
    Dec.decode w = Dec.decode v) ∧
  (∀ w v : Word, Dec.classify w = .ok .math → w &&& 0x01FFFFFC = v &&& 0x01FFFFFC → Dec.decode w = Dec.decode v) ∧
  (∀ w v : Word, w &&& 0x7C = v &&& 0x7C → Dec.classify w = Dec.classify v) ∧
  Dec.decode 0x00C585B3 = .ok (.math 0 11 12 11) ∧ Dec.decode 0x40C585B3 = .ok (.math 0 11 12 11) ∧
  (∀ w v : Word, canonical w = true → canonical v = true → Dec.decode w = Dec.decode v → w = v)

/-- R81: decode_checked is decode, then OutOfRange for a Load or Store with width 3, 6 or 7; classification comes
first. -/
def Obligations.DecodeCheckedRefusesReservedWidths : Prop :=
  (∀ (w : Word) (e : ErrorKind), Dec.decode w = .err e → Dec.decodeChecked w = .err e) ∧
  (∀ w : Word, Dec.classify w = .ok .load ∨ Dec.classify w = .ok .store →
    w.extractLsb' 12 3 = 3 ∨ w.extractLsb' 12 3 = 6 ∨ w.extractLsb' 12 3 = 7 →
    Dec.decodeChecked w = .err .outOfRange) ∧
  (∀ w : Word, Dec.classify w = .ok .load ∨ Dec.classify w = .ok .store →
    w.extractLsb' 12 3 = 0 ∨ w.extractLsb' 12 3 = 1 ∨ w.extractLsb' 12 3 = 2 ∨ w.extractLsb' 12 3 = 4 ∨
      w.extractLsb' 12 3 = 5 → Dec.decodeChecked w = Dec.decode w) ∧
  (∀ w : Word, Dec.classify w = .ok .math ∨ Dec.classify w = .ok .constant → Dec.decodeChecked w = Dec.decode w) ∧
  (∀ w : Word, Dec.widthValid w = true ↔
    w.extractLsb' 12 3 = 0 ∨ w.extractLsb' 12 3 = 1 ∨ w.extractLsb' 12 3 = 2 ∨ w.extractLsb' 12 3 = 4 ∨
      w.extractLsb' 12 3 = 5) ∧
  Dec.decodeChecked 0x0000B083 = .err .outOfRange ∧ Dec.decode 0x0000B083 = .ok (.load 3 1 1 0)

/-- R82: from every state the step goes on and drives every DEC port as its table says, from the word alone. -/
def Obligations.StepDrivesTheDecoderPorts : Prop :=
  (∀ s : State, ∃ t, step s = .next t ∧ t.dec.agreesWith s.word) ∧
  (∀ s s' : State, s.word = s'.word → ∀ t t', step s = .next t → step s' = .next t' → t.dec = t'.dec)

/-! ### ENC -/

/-- R90: the Load word, field by field, for all 32-bit inputs. -/
def Obligations.EncodeLoadPacksItsFields : Prop :=
  (∀ width dest base offset : BitVec 32, Enc.encodeLoad width dest base offset =
    offset.setWidth 12 ++ base.setWidth 5 ++ width.setWidth 3 ++ dest.setWidth 5 ++ 0b0000011#7) ∧
  Enc.encodeLoad 9 1 2 3 = Enc.encodeLoad 1 1 2 3 ∧ Enc.encodeLoad 1 1 2 3 = 0x00311083 ∧
  Enc.encodeLoad 2 32 33 4096 = 0x0000A003 ∧ Enc.encodeLoad 2 10 2 (BitVec.ofInt 32 (-4)) = 0xFFC12503 ∧
  Dec.getLoadOffset 0xFFC12503 = 4092 ∧ Enc.encodeLoad 3 1 1 0 = 0x0000B083 ∧ Enc.encodeLoad 2 10 2 8 = 0x00812503

/-- R91, R39: the Store word with its split offset, for all 32-bit inputs. -/
def Obligations.EncodeStorePacksItsFields : Prop :=
  (∀ width base source offset : BitVec 32, Enc.encodeStore width base source offset =
    offset.extractLsb' 5 7 ++ source.setWidth 5 ++ base.setWidth 5 ++ width.setWidth 3 ++ offset.setWidth 5 ++
      0b0100011#7) ∧
  (∀ offset : BitVec 32, (offset.sshiftRight 5) &&& 0x7F#32 = (offset >>> 5) &&& 0x7F#32) ∧
  Enc.encodeStore 2 2 10 0x1ABC = Enc.encodeStore 2 2 10 0xABC ∧ Enc.encodeStore 2 2 10 0xABC = 0xAAA12E23 ∧
  Enc.encodeStore 2 2 10 (BitVec.ofInt 32 (-4)) = 0xFEA12E23 ∧ Dec.getStoreOffset 0xFEA12E23 = 4092 ∧
  Enc.encodeStore 0 31 31 0xFFF = 0xFFFF8FA3 ∧ Enc.encodeStore 1 5 6 0x7E0 = 0x7E629023 ∧
  Enc.encodeStore 1 5 6 0x01F = 0x00629FA3 ∧ Enc.encodeStore 2 2 10 8 = 0x00A12423

/-- R92, R93 with its decision D5 (log 7): the Math word, `funct7` from the whole function input. -/
def Obligations.EncodeMathPacksItsFields : Prop :=
  (∀ function a b dest : BitVec 32, Enc.encodeMath function a b dest =
    (if function = 0 ∨ function = 1 ∨ function = 5 then 0x00#7 else 0x20#7) ++ b.setWidth 5 ++ a.setWidth 5 ++
      function.setWidth 3 ++ dest.setWidth 5 ++ 0b0110011#7) ∧
  (∀ function : BitVec 32,
    Enc.mathFunct7 function = (if function = 0 ∨ function = 1 ∨ function = 5 then 0x00#7 else 0x20#7)) ∧
  (∀ function : BitVec 32, 8 ≤ function.toNat → Enc.mathFunct7 function = 0x20) ∧
  Enc.encodeMath 0 31 31 31 = 0x01FF8FB3 ∧ Enc.encodeMath 7 0 0 0 = 0x40007033 ∧ Enc.encodeMath 0 1 2 3 = 0x002081B3

/-- R94, R40: the Constant word for all 32-bit inputs. -/
def Obligations.EncodeConstantPacksItsFields : Prop :=
  (∀ value dest : BitVec 32, Enc.encodeConstant value dest =
    value.setWidth 20 ++ dest.setWidth 5 ++ 0b0110111#7) ∧
  Enc.encodeConstant 0x100000 1 = 0x000000B7 ∧ Enc.encodeConstant 0x123456 10 = 0x23456537 ∧
  Enc.encodeConstant (BitVec.ofInt 32 (-1)) 0 = 0xFFFFF037 ∧ Enc.encodeConstant 0x80000 1 = 0x800000B7 ∧
  Dec.getConstantValue 0x800000B7 = 0x80000 ∧ Enc.encodeConstant 1 10 = 0x00001537

/-- R95: encode dispatches on the format tag with each field zero-extended. -/
def Obligations.EncodeDispatchesOnTheFormat : Prop :=
  (∀ (width : Code3) (dest base : RegIx) (offset : Offset), Enc.encode (.load width dest base offset) =
    Enc.encodeLoad (width.setWidth 32) (dest.setWidth 32) (base.setWidth 32) (offset.setWidth 32)) ∧
  (∀ (width : Code3) (base source : RegIx) (offset : Offset), Enc.encode (.store width base source offset) =
    Enc.encodeStore (width.setWidth 32) (base.setWidth 32) (source.setWidth 32) (offset.setWidth 32)) ∧
  (∀ (function : Code3) (a b dest : RegIx), Enc.encode (.math function a b dest) =
    Enc.encodeMath (function.setWidth 32) (a.setWidth 32) (b.setWidth 32) (dest.setWidth 32)) ∧
  (∀ (value : Value) (dest : RegIx), Enc.encode (.constant value dest) =
    Enc.encodeConstant (value.setWidth 32) (dest.setWidth 32)) ∧
  Enc.encode (.constant 1 10) = 0x00001537

/-- R102: ENC's output is the packing function its `fmt` input chooses, and an input the format ignores has no
influence. -/
def Obligations.EncoderPortsFollowTheTag : Prop :=
  (∀ s : State, ∃ t, step s = .next t ∧
    (s.encIn.fmt = 0 → t.encWord = Enc.encodeLoad s.encIn.f3 s.encIn.rd s.encIn.rs1 s.encIn.imm) ∧
    (s.encIn.fmt = 1 → t.encWord = Enc.encodeStore s.encIn.f3 s.encIn.rs1 s.encIn.rs2 s.encIn.imm) ∧
    (s.encIn.fmt = 2 → t.encWord = Enc.encodeMath s.encIn.f3 s.encIn.rs1 s.encIn.rs2 s.encIn.rd) ∧
    (s.encIn.fmt = 3 → t.encWord = Enc.encodeConstant s.encIn.imm s.encIn.rd)) ∧
  (∀ (c : EncCall) (x : BitVec 32), c.fmt = 0 → Enc.word { c with rs2 := x } = Enc.word c) ∧
  (∀ (c : EncCall) (x : BitVec 32), c.fmt = 1 → Enc.word { c with rd := x } = Enc.word c) ∧
  (∀ (c : EncCall) (x : BitVec 32), c.fmt = 2 → Enc.word { c with imm := x } = Enc.word c) ∧
  (∀ (c : EncCall) (x y z : BitVec 32), c.fmt = 3 → Enc.word { c with f3 := x, rs1 := y, rs2 := z } = Enc.word c)

/-- R101, R96: changing one input of a packing function changes that input's field alone; in-range inputs are told
apart; words of different packing functions differ in [6:2]. -/
def Obligations.NoFieldCorruptsAnother : Prop :=
  (∀ w d b o x : BitVec 32,
    (Enc.encodeLoad w d b o ^^^ Enc.encodeLoad x d b o) &&& 0xFFFF8FFF = 0 ∧
    (Enc.encodeLoad w d b o ^^^ Enc.encodeLoad w x b o) &&& 0xFFFFF07F = 0 ∧
    (Enc.encodeLoad w d b o ^^^ Enc.encodeLoad w d x o) &&& 0xFFF07FFF = 0 ∧
    (Enc.encodeLoad w d b o ^^^ Enc.encodeLoad w d b x) &&& 0x000FFFFF = 0) ∧
  (∀ w b s o x : BitVec 32,
    (Enc.encodeStore w b s o ^^^ Enc.encodeStore x b s o) &&& 0xFFFF8FFF = 0 ∧
    (Enc.encodeStore w b s o ^^^ Enc.encodeStore w x s o) &&& 0xFFF07FFF = 0 ∧
    (Enc.encodeStore w b s o ^^^ Enc.encodeStore w b x o) &&& 0xFE0FFFFF = 0 ∧
    (Enc.encodeStore w b s o ^^^ Enc.encodeStore w b s x) &&& 0x01FFF07F = 0) ∧
  (∀ f a b d x : BitVec 32,
    (Enc.encodeMath f a b d ^^^ Enc.encodeMath x a b d) &&& 0x01FF8FFF = 0 ∧
    (Enc.encodeMath f a b d ^^^ Enc.encodeMath f x b d) &&& 0xFFF07FFF = 0 ∧
    (Enc.encodeMath f a b d ^^^ Enc.encodeMath f a x d) &&& 0xFE0FFFFF = 0 ∧
    (Enc.encodeMath f a b d ^^^ Enc.encodeMath f a b x) &&& 0xFFFFF07F = 0) ∧
  (∀ v d x : BitVec 32,
    (Enc.encodeConstant v d ^^^ Enc.encodeConstant x d) &&& 0x00000FFF = 0 ∧
    (Enc.encodeConstant v d ^^^ Enc.encodeConstant v x) &&& 0xFFFFF07F = 0) ∧
  (∀ b c : Breakdown, Enc.encode b = Enc.encode c → b = c) ∧
  (∀ c d : EncCall, c.fmt ≠ d.fmt → (Enc.word c).extractLsb' 2 5 ≠ (Enc.word d).extractLsb' 2 5)

/-- R98: decode after encode gives the masked fields, and for every breakdown the breakdown itself. -/
def Obligations.DecodeAfterEncodeMasksTheFields : Prop :=
  (∀ w d b o : BitVec 32, Dec.decode (Enc.encodeLoad w d b o) =
    .ok (.load (w.setWidth 3) (d.setWidth 5) (b.setWidth 5) (o.setWidth 12))) ∧
  (∀ w b s o : BitVec 32, Dec.decode (Enc.encodeStore w b s o) =
    .ok (.store (w.setWidth 3) (b.setWidth 5) (s.setWidth 5) (o.setWidth 12))) ∧
  (∀ f a b d : BitVec 32, Dec.decode (Enc.encodeMath f a b d) =
    .ok (.math (f.setWidth 3) (a.setWidth 5) (b.setWidth 5) (d.setWidth 5))) ∧
  (∀ v d : BitVec 32, Dec.decode (Enc.encodeConstant v d) = .ok (.constant (v.setWidth 20) (d.setWidth 5))) ∧
  (∀ b : Breakdown, Dec.decode (Enc.encode b) = .ok b)

/-- R99: encode after decode gives the canonical word, so the word itself exactly when it is canonical. -/
def Obligations.EncodeAfterDecodeIsCanon : Prop :=
  (∀ (w : Word) (b : Breakdown), Dec.decode w = .ok b → Enc.encode b = canon w) ∧
  (∀ w : Word, w.extractLsb' 2 5 = 0x00 ∨ w.extractLsb' 2 5 = 0x08 ∨ w.extractLsb' 2 5 = 0x0D → canon w = w ||| 0x3) ∧
  (∀ w : Word, w.extractLsb' 2 5 = 0x0C → canon w = (w &&& 0x01FFFFFC) ||| 0x3 |||
    ((Enc.mathFunct7 ((w.extractLsb' 12 3).setWidth 32)).setWidth 32 <<< 25)) ∧
  (∀ (w : Word) (b : Breakdown), Dec.decode w = .ok b → (Enc.encode b = w ↔ canonical w = true)) ∧
  (∀ (w v : Word) (b : Breakdown), canonical w = true → canonical v = true → Dec.decode w = .ok b →
    Dec.decode v = .ok b → w = v) ∧
  canon 0x00812500 = 0x00812503 ∧ canon 0x00C5F533 = 0x40C5F533

/-- Section 2.7 of spec/95_test_vectors.md: canon is idempotent, and decode cannot tell a word from its canonical
form. -/
def Obligations.CanonIsIdempotentAndInvisible : Prop :=
  ∀ (w : Word) (f : Format), Dec.classify w = .ok f →
    canonical (canon w) = true ∧ canon (canon w) = canon w ∧ Dec.decode (canon w) = Dec.decode w

/-- R100: every offset survives the split, whatever the other inputs, and disturbs none of them. -/
def Obligations.StoreOffsetSurvivesTheSplit : Prop :=
  (∀ w b s o : BitVec 32, o.toNat ≤ 0xFFF → (Dec.getStoreOffset (Enc.encodeStore w b s o)).toNat = o.toNat) ∧
  (∀ w b s o : BitVec 32, Dec.getStoreOffset (Enc.encodeStore w b s o) = (o &&& 0xFFF).setWidth 12) ∧
  (∀ w b s o : BitVec 32, Dec.getStoreWidth (Enc.encodeStore w b s o) = w.setWidth 3 ∧
    Dec.getStoreBase (Enc.encodeStore w b s o) = b.setWidth 5 ∧
    Dec.getStoreSource (Enc.encodeStore w b s o) = s.setWidth 5)

/-- R42: a signed input keeps the low bits of its two's complement, and its sign does not survive a round trip. -/
def Obligations.SignedInputsComeBackUnsigned : Prop :=
  (∀ (x : Int) (w d b : BitVec 32),
    ((Dec.getLoadOffset (Enc.encodeLoad w d b (inputOfInt x))).toNat : Int) = x % 4096) ∧
  (∀ (x : Int) (w b s : BitVec 32),
    ((Dec.getStoreOffset (Enc.encodeStore w b s (inputOfInt x))).toNat : Int) = x % 4096) ∧
  (∀ (x : Int) (d : BitVec 32),
    ((Dec.getConstantValue (Enc.encodeConstant (inputOfInt x) d)).toNat : Int) = x % 1048576) ∧
  (∀ w d b : BitVec 32, (Enc.encodeLoad w d b (inputOfInt (-4))).extractLsb' 20 12 = 0xFFC ∧
    Dec.getLoadOffset (Enc.encodeLoad w d b (inputOfInt (-4))) = 4092)

/-- R97 as the spec words it, R52's canonical and all 32-bit inputs.
It is FALSE of the spec's own R92 and R93: encode_math(8,1,2,3) = 0x402081B3 (spec/95_test_vectors.md 2.5) carries function
0 with funct7 0x20, which R52 does not count as canonical (log 8). -/
def Obligations.EveryEncodedWordIsCanonical : Prop :=
  ∀ c : EncCall, canonical (Enc.word c) = true

/-- What holds of R97 (log 8): every word ENC produces has the format encoded, its low seven bits, and in Math 0x00 or
0x20 in [31:25]; it is canonical whenever the function input is in range; every canonical word is produced by a call in
range (R52). -/
def Obligations.EncodedWordsAreCanonicalInRange : Prop :=
  (∀ c : EncCall, Dec.classify (Enc.word c) = .ok (Format.ofCode c.fmt)) ∧
  (∀ c : EncCall,
    (c.fmt = 0 → (Enc.word c).extractLsb' 0 7 = 0x03) ∧ (c.fmt = 1 → (Enc.word c).extractLsb' 0 7 = 0x23) ∧
    (c.fmt = 2 → (Enc.word c).extractLsb' 0 7 = 0x33) ∧ (c.fmt = 3 → (Enc.word c).extractLsb' 0 7 = 0x37)) ∧
  (∀ c : EncCall, c.fmt = 2 →
    (Enc.word c).extractLsb' 25 7 = 0x00 ∨ (Enc.word c).extractLsb' 25 7 = 0x20) ∧
  (∀ c : EncCall, (c.fmt = 2 → c.f3.toNat < 8) → canonical (Enc.word c) = true) ∧
  (∀ w : Word, canonical w = true → ∃ c : EncCall, c.inRange = true ∧ Enc.word c = w)

/-! ### The instructions -/

/-- Words written out bit by bit from the encodings of R34 to R37, one or more of each family. -/
def Obligations.WrittenWordsDecodeToTheirInstructions : Prop :=
  decode 0b00000000000001011000010100000011 = .ok (.lb 10 11 0) ∧
  decode 0b00000000100000010010010100000011 = .ok (.lw 10 2 8) ∧
  decode 0b11111111111111111101111110000011 = .ok (.lhu 31 31 4095) ∧
  decode 0b00000000000000001011000010000011 = .ok (.loadWidth3 1 1 0) ∧
  decode 0b10101010101000010010111000100011 = .ok (.sw 10 2 0xABC) ∧
  decode 0b00000000101000010101010000100011 = .ok (.shu 10 2 8) ∧
  decode 0b00000000001000001000000110110011 = .ok (.add 3 1 2) ∧
  decode 0b01000000110001011111010100110011 = .ok (.and 10 11 12) ∧
  decode 0b00010010001101000101001010110111 = .ok (.lui 5 0x12345)

/-- When the word on DEC's input spells a well-formed instruction, the step is exec of it, after both units' ports have
settled: the settled state differs from the state in DEC's ports and ENC's output alone. -/
def Obligations.StepRunsTheDecodedInstruction : Prop :=
  (∀ (s : State) (i : Instr), decode s.word = .ok i → i.wellFormed = true → step s = exec i s.settlePorts) ∧
  (∀ i : Instr, i.wellFormed = true) ∧
  (∀ s : State, s.settlePorts = { s with dec := decPorts s.word, encWord := Enc.word s.encIn })

/-- Load instructions complete from every state with every operand: the breakdown, the checked decode's verdict
(OutOfRange for widths 3, 6, 7) and the canonical word {offset, base, width, dest, 0000011} are delivered, and every other
field of the state is as it was. -/
def Obligations.LoadInstructionsComplete : Prop :=
  ∀ (s : State) (dest base : RegIx) (offset : Offset),
    exec (.lb dest base offset) s = .next { s with
      decoded := .ok (.load 0 dest base offset), checked := .ok (.load 0 dest base offset),
      recoded := .ok (offset ++ base ++ 0b000#3 ++ dest ++ 0b0000011#7) } ∧
    exec (.lh dest base offset) s = .next { s with
      decoded := .ok (.load 1 dest base offset), checked := .ok (.load 1 dest base offset),
      recoded := .ok (offset ++ base ++ 0b001#3 ++ dest ++ 0b0000011#7) } ∧
    exec (.lw dest base offset) s = .next { s with
      decoded := .ok (.load 2 dest base offset), checked := .ok (.load 2 dest base offset),
      recoded := .ok (offset ++ base ++ 0b010#3 ++ dest ++ 0b0000011#7) } ∧
    exec (.loadWidth3 dest base offset) s = .next { s with
      decoded := .ok (.load 3 dest base offset), checked := .err .outOfRange,
      recoded := .ok (offset ++ base ++ 0b011#3 ++ dest ++ 0b0000011#7) } ∧
    exec (.lbu dest base offset) s = .next { s with
      decoded := .ok (.load 4 dest base offset), checked := .ok (.load 4 dest base offset),
      recoded := .ok (offset ++ base ++ 0b100#3 ++ dest ++ 0b0000011#7) } ∧
    exec (.lhu dest base offset) s = .next { s with
      decoded := .ok (.load 5 dest base offset), checked := .ok (.load 5 dest base offset),
      recoded := .ok (offset ++ base ++ 0b101#3 ++ dest ++ 0b0000011#7) } ∧
    exec (.loadWidth6 dest base offset) s = .next { s with
      decoded := .ok (.load 6 dest base offset), checked := .err .outOfRange,
      recoded := .ok (offset ++ base ++ 0b110#3 ++ dest ++ 0b0000011#7) } ∧
    exec (.loadWidth7 dest base offset) s = .next { s with
      decoded := .ok (.load 7 dest base offset), checked := .err .outOfRange,
      recoded := .ok (offset ++ base ++ 0b111#3 ++ dest ++ 0b0000011#7) }

/-- Store instructions complete from every state with every operand: the canonical word is
{offset[11:5], source, base, width, offset[4:0], 0100011}, and every other field of the state is as it was. -/
def Obligations.StoreInstructionsComplete : Prop :=
  ∀ (s : State) (source base : RegIx) (offset : Offset),
    exec (.sb source base offset) s = .next { s with
      decoded := .ok (.store 0 base source offset), checked := .ok (.store 0 base source offset),
      recoded := .ok (offset.extractLsb' 5 7 ++ source ++ base ++ 0b000#3 ++ offset.extractLsb' 0 5 ++ 0b0100011#7) } ∧
    exec (.sh source base offset) s = .next { s with
      decoded := .ok (.store 1 base source offset), checked := .ok (.store 1 base source offset),
      recoded := .ok (offset.extractLsb' 5 7 ++ source ++ base ++ 0b001#3 ++ offset.extractLsb' 0 5 ++ 0b0100011#7) } ∧
    exec (.sw source base offset) s = .next { s with
      decoded := .ok (.store 2 base source offset), checked := .ok (.store 2 base source offset),
      recoded := .ok (offset.extractLsb' 5 7 ++ source ++ base ++ 0b010#3 ++ offset.extractLsb' 0 5 ++ 0b0100011#7) } ∧
    exec (.storeWidth3 source base offset) s = .next { s with
      decoded := .ok (.store 3 base source offset), checked := .err .outOfRange,
      recoded := .ok (offset.extractLsb' 5 7 ++ source ++ base ++ 0b011#3 ++ offset.extractLsb' 0 5 ++ 0b0100011#7) } ∧
    exec (.sbu source base offset) s = .next { s with
      decoded := .ok (.store 4 base source offset), checked := .ok (.store 4 base source offset),
      recoded := .ok (offset.extractLsb' 5 7 ++ source ++ base ++ 0b100#3 ++ offset.extractLsb' 0 5 ++ 0b0100011#7) } ∧
    exec (.shu source base offset) s = .next { s with
      decoded := .ok (.store 5 base source offset), checked := .ok (.store 5 base source offset),
      recoded := .ok (offset.extractLsb' 5 7 ++ source ++ base ++ 0b101#3 ++ offset.extractLsb' 0 5 ++ 0b0100011#7) } ∧
    exec (.storeWidth6 source base offset) s = .next { s with
      decoded := .ok (.store 6 base source offset), checked := .err .outOfRange,
      recoded := .ok (offset.extractLsb' 5 7 ++ source ++ base ++ 0b110#3 ++ offset.extractLsb' 0 5 ++ 0b0100011#7) } ∧
    exec (.storeWidth7 source base offset) s = .next { s with
      decoded := .ok (.store 7 base source offset), checked := .err .outOfRange,
      recoded := .ok (offset.extractLsb' 5 7 ++ source ++ base ++ 0b111#3 ++ offset.extractLsb' 0 5 ++ 0b0100011#7) }

/-- Math instructions complete from every state with every operand: the canonical word is
{funct7, operand_b, operand_a, function, dest, 0110011} with the funct7 of R93, and every other field of the state is as
it was. -/
def Obligations.MathInstructionsComplete : Prop :=
  ∀ (s : State) (dest a b : RegIx),
    exec (.add dest a b) s = .next { s with
      decoded := .ok (.math 0 a b dest), checked := .ok (.math 0 a b dest),
      recoded := .ok (0b0000000#7 ++ b ++ a ++ 0b000#3 ++ dest ++ 0b0110011#7) } ∧
    exec (.sll dest a b) s = .next { s with
      decoded := .ok (.math 1 a b dest), checked := .ok (.math 1 a b dest),
      recoded := .ok (0b0000000#7 ++ b ++ a ++ 0b001#3 ++ dest ++ 0b0110011#7) } ∧
    exec (.slt dest a b) s = .next { s with
      decoded := .ok (.math 2 a b dest), checked := .ok (.math 2 a b dest),
      recoded := .ok (0b0100000#7 ++ b ++ a ++ 0b010#3 ++ dest ++ 0b0110011#7) } ∧
    exec (.sltu dest a b) s = .next { s with
      decoded := .ok (.math 3 a b dest), checked := .ok (.math 3 a b dest),
      recoded := .ok (0b0100000#7 ++ b ++ a ++ 0b011#3 ++ dest ++ 0b0110011#7) } ∧
    exec (.xor dest a b) s = .next { s with
      decoded := .ok (.math 4 a b dest), checked := .ok (.math 4 a b dest),
      recoded := .ok (0b0100000#7 ++ b ++ a ++ 0b100#3 ++ dest ++ 0b0110011#7) } ∧
    exec (.srl dest a b) s = .next { s with
      decoded := .ok (.math 5 a b dest), checked := .ok (.math 5 a b dest),
      recoded := .ok (0b0000000#7 ++ b ++ a ++ 0b101#3 ++ dest ++ 0b0110011#7) } ∧
    exec (.or dest a b) s = .next { s with
      decoded := .ok (.math 6 a b dest), checked := .ok (.math 6 a b dest),
      recoded := .ok (0b0100000#7 ++ b ++ a ++ 0b110#3 ++ dest ++ 0b0110011#7) } ∧
    exec (.and dest a b) s = .next { s with
      decoded := .ok (.math 7 a b dest), checked := .ok (.math 7 a b dest),
      recoded := .ok (0b0100000#7 ++ b ++ a ++ 0b111#3 ++ dest ++ 0b0110011#7) }

/-- `lui` completes from every state with every operand: the canonical word is {value, dest, 0110111}, and every other
field of the state is as it was. -/
def Obligations.LuiCompletes : Prop :=
  ∀ (s : State) (dest : RegIx) (value : Value),
    exec (.lui dest value) s = .next { s with
      decoded := .ok (.constant value dest), checked := .ok (.constant value dest),
      recoded := .ok (value ++ dest ++ 0b0110111#7) }

/-- One row of a Load family rule: every word under the row's match and mask is that instruction, with the breakdown and
the encoder call of the rule. -/
def Sys2Proof.Machine.LoadRule (k : Code3) (pattern : Word) (mk : RegIx → RegIx → Offset → Instr) : Prop :=
  (∀ w : Word, w &&& 0x0000707C = pattern →
    decode w = .ok (mk (w.extractLsb' 7 5) (w.extractLsb' 15 5) (w.extractLsb' 20 12)) ∧
    Dec.decode w = .ok (.load k (w.extractLsb' 7 5) (w.extractLsb' 15 5) (w.extractLsb' 20 12)) ∧
    Dec.decodeChecked w = (if k = 3 ∨ k = 6 ∨ k = 7 then .err .outOfRange else Dec.decode w)) ∧
  (∀ (dest base : RegIx) (offset : Offset),
    encode (mk dest base offset) = offset ++ base ++ k ++ dest ++ 0b0000011#7 ∧
    Enc.encodeLoad (k.setWidth 32) (dest.setWidth 32) (base.setWidth 32) (offset.setWidth 32) =
      encode (mk dest base offset)) ∧
  (∀ T : NameTables, T.wf = true →
    (widthText T k.toNat = .err .outOfRange ↔ k = 3 ∨ k = 6 ∨ k = 7) ∧
    (∀ e, widthText T k.toNat = .err e → e = .outOfRange))

/-- R110 to R117: every Load word is the instruction of its width code, no accepted line gives a width 3, 6 or 7 whatever
the tables, and each rule's example. -/
def Obligations.LoadWordsFollowTheirRules : Prop :=
  LoadRule 0 0x00000000 .lb ∧ LoadRule 1 0x00001000 .lh ∧ LoadRule 2 0x00002000 .lw ∧
  LoadRule 3 0x00003000 .loadWidth3 ∧ LoadRule 4 0x00004000 .lbu ∧ LoadRule 5 0x00005000 .lhu ∧
  LoadRule 6 0x00006000 .loadWidth6 ∧ LoadRule 7 0x00007000 .loadWidth7 ∧
  decode 0x00000000 = .ok (.lb 0 0 0) ∧ canonical 0x00000000 = false ∧ canon 0x00000000 = 0x00000003 ∧
  Enc.encodeLoad 0 10 11 0 = 0x00058503 ∧ Dec.decode 0x00058503 = .ok (.load 0 10 11 0) ∧
  (∀ dest base offset : BitVec 32, Enc.encodeLoad 9 dest base offset = Enc.encodeLoad 1 dest base offset) ∧
  Enc.encodeLoad 1 5 6 2047 = 0x7FF31283 ∧ Enc.encodeLoad 1 5 6 2 = 0x00231283 ∧
  Enc.encodeLoad 2 10 2 (BitVec.ofInt 32 (-4)) = 0xFFC12503 ∧ Dec.getLoadOffset 0xFFC12503 = 4092 ∧
  Enc.encodeLoad 2 10 2 8 = 0x00812503 ∧ Dec.decode 0x00812503 = .ok (.load 2 10 2 8) ∧
  Enc.encodeLoad 4 15 8 0x123 = 0x12344783 ∧ Enc.encodeLoad 5 31 31 0xFFF = 0xFFFFDF83 ∧
  Dec.decode 0xFFFFDF83 = .ok (.load 5 31 31 4095) ∧
  Enc.encodeLoad 3 1 1 0 = 0x0000B083 ∧ Dec.decode 0x0000B083 = .ok (.load 3 1 1 0) ∧
  Dec.decodeChecked 0x0000B083 = .err .outOfRange ∧
  Enc.encodeLoad 6 1 1 0 = 0x0000E083 ∧ Dec.decode 0x0000E083 = .ok (.load 6 1 1 0) ∧
  Enc.encodeLoad 7 1 1 0 = 0x0000F083 ∧ Dec.decode 0x0000F083 = .ok (.load 7 1 1 0) ∧
  (∀ s : Text, widthFromSuffix s ≠ .ok 3 ∧ widthFromSuffix s ≠ .ok 6 ∧ widthFromSuffix s ≠ .ok 7) ∧
  (∀ (T : NameTables) (line : Text) (w : Word), encodeText T line = .ok w → Dec.classify w = .ok .load →
    w.extractLsb' 12 3 ≠ 3 ∧ w.extractLsb' 12 3 ≠ 6 ∧ w.extractLsb' 12 3 ≠ 7)

/-- One row of a Store family rule. -/
def Sys2Proof.Machine.StoreRule (k : Code3) (pattern : Word) (mk : RegIx → RegIx → Offset → Instr) : Prop :=
  (∀ w : Word, w &&& 0x0000707C = pattern →
    decode w = .ok (mk (w.extractLsb' 20 5) (w.extractLsb' 15 5) (w.extractLsb' 25 7 ++ w.extractLsb' 7 5)) ∧
    Dec.decode w =
      .ok (.store k (w.extractLsb' 15 5) (w.extractLsb' 20 5) (w.extractLsb' 25 7 ++ w.extractLsb' 7 5)) ∧
    Dec.decodeChecked w = (if k = 3 ∨ k = 6 ∨ k = 7 then .err .outOfRange else Dec.decode w)) ∧
  (∀ (source base : RegIx) (offset : Offset),
    encode (mk source base offset) =
      offset.extractLsb' 5 7 ++ source ++ base ++ k ++ offset.extractLsb' 0 5 ++ 0b0100011#7 ∧
    Enc.encodeStore (k.setWidth 32) (base.setWidth 32) (source.setWidth 32) (offset.setWidth 32) =
      encode (mk source base offset)) ∧
  (∀ T : NameTables, T.wf = true →
    (widthText T k.toNat = .err .outOfRange ↔ k = 3 ∨ k = 6 ∨ k = 7) ∧
    (∀ e, widthText T k.toNat = .err e → e = .outOfRange))

/-- R120 to R127: every Store word is the instruction of its width code, no accepted line gives a width 3, 6 or 7 whatever
the tables, and each rule's example. -/
def Obligations.StoreWordsFollowTheirRules : Prop :=
  StoreRule 0 0x00000020 .sb ∧ StoreRule 1 0x00001020 .sh ∧ StoreRule 2 0x00002020 .sw ∧
  StoreRule 3 0x00003020 .storeWidth3 ∧ StoreRule 4 0x00004020 .sbu ∧ StoreRule 5 0x00005020 .shu ∧
  StoreRule 6 0x00006020 .storeWidth6 ∧ StoreRule 7 0x00007020 .storeWidth7 ∧
  Enc.encodeStore 0 31 31 0xFFF = 0xFFFF8FA3 ∧ Dec.decode 0xFFFF8FA3 = .ok (.store 0 31 31 4095) ∧
  decode 0x00000020 = .ok (.sb 0 0 0) ∧ canonical 0x00000020 = false ∧
  Enc.encodeStore 0 11 10 0 = 0x00A58023 ∧ Dec.decode 0x00A58023 = .ok (.store 0 11 10 0) ∧
  Enc.encodeStore 1 5 6 0x7E0 = 0x7E629023 ∧ Enc.encodeStore 1 5 6 0x01F = 0x00629FA3 ∧
  Enc.encodeStore 1 6 5 2 = 0x00531123 ∧
  Enc.encodeStore 2 2 10 (BitVec.ofInt 32 (-4)) = 0xFEA12E23 ∧ Dec.getStoreOffset 0xFEA12E23 = 4092 ∧
  Enc.encodeStore 2 2 10 0xABC = 0xAAA12E23 ∧ Enc.encodeStore 2 2 1 2044 = 0x7E112E23 ∧
  Enc.encodeStore 2 2 10 8 = 0x00A12423 ∧ Dec.decode 0x00A12423 = .ok (.store 2 2 10 8) ∧
  Enc.encodeStore 4 2 10 8 = 0x00A14423 ∧ Dec.decode 0x00A14423 = .ok (.store 4 2 10 8) ∧
  Enc.encodeStore 5 2 10 8 = 0x00A15423 ∧ Dec.decode 0x00A15423 = .ok (.store 5 2 10 8) ∧
  Enc.encodeStore 3 2 10 8 = 0x00A13423 ∧ Dec.decode 0x00A13423 = .ok (.store 3 2 10 8) ∧
  Dec.decodeChecked 0x00A13423 = .err .outOfRange ∧
  Enc.encodeStore 6 2 10 8 = 0x00A16423 ∧ Dec.decode 0x00A16423 = .ok (.store 6 2 10 8) ∧
  Enc.encodeStore 7 2 10 8 = 0x00A17423 ∧ Dec.decode 0x00A17423 = .ok (.store 7 2 10 8) ∧
  (∀ (T : NameTables) (line : Text) (w : Word), encodeText T line = .ok w → Dec.classify w = .ok .store →
    w.extractLsb' 12 3 ≠ 3 ∧ w.extractLsb' 12 3 ≠ 6 ∧ w.extractLsb' 12 3 ≠ 7)

/-- One row of a Math family rule; `canon7` is the funct7 of the row's canonical words. -/
def Sys2Proof.Machine.MathRule (k : Code3) (pattern canonPattern : Word) (canon7 : BitVec 7)
    (mk : RegIx → RegIx → RegIx → Instr) : Prop :=
  (∀ w : Word, w &&& 0x0000707C = pattern →
    decode w = .ok (mk (w.extractLsb' 7 5) (w.extractLsb' 15 5) (w.extractLsb' 20 5)) ∧
    Dec.decode w = .ok (.math k (w.extractLsb' 15 5) (w.extractLsb' 20 5) (w.extractLsb' 7 5)) ∧
    Dec.decodeChecked w = Dec.decode w) ∧
  (∀ dest a b : RegIx,
    encode (mk dest a b) = canon7 ++ b ++ a ++ k ++ dest ++ 0b0110011#7 ∧
    encode (mk dest a b) &&& 0xFE00707F = canonPattern ∧
    Enc.encodeMath (k.setWidth 32) (a.setWidth 32) (b.setWidth 32) (dest.setWidth 32) = encode (mk dest a b)) ∧
  (canon7 = 0x20 → ∀ function a b dest : BitVec 32, function.setWidth 3 = k →
    (Enc.encodeMath function a b dest).extractLsb' 25 7 = 0x20) ∧
  (∀ T : NameTables, T.wf = true → ∃ n, functionName T k.toNat = .ok n)

/-- R130 to R137: every Math word is the instruction of its function code whatever its bits [31:25], and each rule's
example. -/
def Obligations.MathWordsFollowTheirRules : Prop :=
  MathRule 0 0x00000030 0x00000033 0x00 .add ∧ MathRule 1 0x00001030 0x00001033 0x00 .sll ∧
  MathRule 2 0x00002030 0x40002033 0x20 .slt ∧ MathRule 3 0x00003030 0x40003033 0x20 .sltu ∧
  MathRule 4 0x00004030 0x40004033 0x20 .xor ∧ MathRule 5 0x00005030 0x00005033 0x00 .srl ∧
  MathRule 6 0x00006030 0x40006033 0x20 .or ∧ MathRule 7 0x00007030 0x40007033 0x20 .and ∧
  Dec.decode 0x40C585B3 = .ok (.math 0 11 12 11) ∧ Dec.decode 0x00C585B3 = .ok (.math 0 11 12 11) ∧
  Enc.encode (.math 0 11 12 11) = 0x00C585B3 ∧ Enc.encodeMath 0 31 31 31 = 0x01FF8FB3 ∧
  Enc.encodeMath 0 1 2 3 = 0x002081B3 ∧ Dec.decode 0x002081B3 = .ok (.math 0 1 2 3) ∧
  Enc.encodeMath 0 11 12 10 = 0x00C58533 ∧ Enc.encodeMath 1 11 12 10 = 0x00C59533 ∧
  Enc.encodeMath 9 1 2 3 = 0x402091B3 ∧ Enc.encodeMath 1 1 2 3 = 0x002091B3 ∧
  Enc.encodeMath 2 11 12 10 = 0x40C5A533 ∧ Enc.encodeMath 3 11 12 10 = 0x40C5B533 ∧
  Enc.encodeMath 4 11 12 10 = 0x40C5C533 ∧ Enc.encodeMath 13 1 2 3 = 0x4020D1B3 ∧
  Enc.encodeMath 5 11 12 10 = 0x00C5D533 ∧ Enc.encodeMath 6 11 12 10 = 0x40C5E533 ∧
  Dec.decode 0x00C5F533 = .ok (.math 7 11 12 10) ∧ Enc.encode (.math 7 11 12 10) = 0x40C5F533 ∧
  Enc.encodeMath (BitVec.ofInt 32 (-1)) 1 2 3 = 0x4020F1B3 ∧ Enc.encodeMath 7 0 0 0 = 0x40007033 ∧
  Enc.encodeMath 7 11 12 10 = 0x40C5F533

/-- R140: every Constant word is `lui`, its value read unsigned and unshifted, and the rule's examples. -/
def Obligations.ConstantWordsFollowTheirRule : Prop :=
  (∀ w : Word, w &&& 0x0000007C = 0x00000034 →
    decode w = .ok (.lui (w.extractLsb' 7 5) (w.extractLsb' 12 20)) ∧
    Dec.decode w = .ok (.constant (w.extractLsb' 12 20) (w.extractLsb' 7 5)) ∧
    Dec.decodeChecked w = Dec.decode w) ∧
  (∀ (dest : RegIx) (value : Value), encode (.lui dest value) = value ++ dest ++ 0b0110111#7 ∧
    encode (.lui dest value) &&& 0x0000007F = 0x00000037) ∧
  (∀ value dest : BitVec 32,
    Enc.encodeConstant value dest = ((value &&& 0xFFFFF) <<< 12) ||| ((dest &&& 0x1F) <<< 7) ||| 0x37) ∧
  Dec.decode 0x123452B7 = .ok (.constant 0x12345 5) ∧ Dec.decode 0x800000B7 = .ok (.constant 0x80000 1) ∧
  Dec.decode 0xFFFFFFB7 = .ok (.constant 0xFFFFF 31) ∧ Enc.encodeConstant 0x123456 10 = 0x23456537 ∧
  Enc.encodeConstant 0x100000 1 = 0x000000B7 ∧ Enc.encodeConstant (BitVec.ofInt 32 (-1)) 0 = 0xFFFFF037 ∧
  Dec.decode 0x00000034 = .ok (.constant 0 0) ∧ canonical 0x00000034 = false ∧ canonical 0x00000037 = true ∧
  (∀ (w : Word) (d : RegIx) (v : Value), decode w = .ok (.lui d v) → 0x34 ≤ w.toNat) ∧
  (∀ (w : Word) (d : RegIx) (v : Value), decode w = .ok (.lui d v) → canonical w = true → 0x37 ≤ w.toNat) ∧
  Enc.encodeConstant 1 10 = 0x1537 ∧ Dec.decode 0x1537 = .ok (.constant 1 10) ∧
  Enc.encodeConstant 0x12345 5 = 0x123452B7

/-- R44: DEC gives a word the instruction of a row exactly when the word passes the row's decode test, and every word ENC
produces for an instruction satisfies both of its row's tests. -/
def Obligations.OpcodeMapDecidesTheInstruction : Prop :=
  (∀ (w : Word) (i : Instr), decode w = .ok i → i.row.hits w = true) ∧
  (∀ (w : Word) (i : Instr), i.row.hits w = true → ∃ j, decode w = .ok j ∧ j.row = i.row) ∧
  (∀ i : Instr, i.row.hitsCanonical (encode i) = true ∧ i.row.hits (encode i) = true) ∧
  (∀ (w : Word) (i : Instr), i.row.hitsCanonical w = true → canonical w = true ∧ i.row.hits w = true)

/-- R98 for instructions: decode of encode is the instruction, with every operand at every value its field admits. -/
def Obligations.DecodeOfEncodeIsTheInstruction : Prop :=
  ∀ i : Instr, i.wellFormed = true → decode (encode i) = .ok i ∧ canonical (encode i) = true

/-! ### The machine -/

/-- R8, R18, R172, R190: from every state, reached or not, the step goes on to a state whose results are those of its
inputs and never partial. -/
def Obligations.EveryStepIsSafe : Prop := ∀ s : State, SafeStep s

/-- R18, R190: the state before any evaluation has the outputs of its inputs, whole. -/
def Obligations.ResetIsSettled : Prop := State.reset.Settled ∧ State.reset.NoPartialResult

/-- R173 (and R45, R172): a word of no format gives the typed error as the result from every state, whatever the state
held; no field of a breakdown comes with it, the opcode stays readable, the inputs are as they were, evaluating again gives
the same error, and no other word gives it. `fmt_valid` and the number 1 are the decisions D2 and D6 (log 19), and that the
three results are delivered together is the model's convention (log 15). -/
def Obligations.UnknownWordGivesATypedError : Prop :=
  (∀ s : State,
    s.word.extractLsb' 2 5 ≠ 0x00 → s.word.extractLsb' 2 5 ≠ 0x08 → s.word.extractLsb' 2 5 ≠ 0x0C →
    s.word.extractLsb' 2 5 ≠ 0x0D →
    ∃ t, step s = .next t ∧ t.decoded = .err .unknownFormat ∧ t.checked = .err .unknownFormat ∧
      t.recoded = .err .unknownFormat ∧ t.dec.fmtValid = false ∧ t.dec.err = 1 ∧
      t.dec.opcode = s.word.extractLsb' 2 5 ∧ t.word = s.word ∧ t.encIn = s.encIn ∧
      t.encWord = Enc.word s.encIn ∧ step t = .next t) ∧
  (∀ s t : State, step s = .next t → t.decoded = .err .unknownFormat →
    s.word.extractLsb' 2 5 ≠ 0x00 ∧ s.word.extractLsb' 2 5 ≠ 0x08 ∧ s.word.extractLsb' 2 5 ≠ 0x0C ∧
    s.word.extractLsb' 2 5 ≠ 0x0D) ∧
  ((List.range 32).filter (fun n => decide (Dec.decode (BitVec.ofNat 32 (4 * n)) = .err .unknownFormat))).length = 28 ∧
  Dec.decode 0x0000007F = .err .unknownFormat ∧ Dec.decode 0xFFFFFFFF = .err .unknownFormat

/-- R8, R13, R25, R193: a step's results depend on the inputs present and on nothing an earlier evaluation left, DEC's not
on ENC's inputs and ENC's not on DEC's. -/
def Obligations.ResultsDependOnTheInputsAlone : Prop :=
  (∀ s s' : State, s.word = s'.word → s.encIn = s'.encIn → step s = step s') ∧
  (∀ s s' t t' : State, step s = .next t → step s' = .next t' →
    (s.word = s'.word →
      t.dec = t'.dec ∧ t.decoded = t'.decoded ∧ t.checked = t'.checked ∧ t.recoded = t'.recoded) ∧
    (s.encIn = s'.encIn → t.encWord = t'.encWord))

/-- R8, R173: the same evaluation repeated gives the same result, errors too, and a step leaves the inputs alone. -/
def Obligations.RepeatedEvaluationIsStable : Prop :=
  ∀ s t : State, step s = .next t → t.word = s.word ∧ t.encIn = s.encIn ∧ step t = .next t

/-- R8, R172 (spec/95_test_vectors.md P3): a stream of words evaluated one at a time gives each word its own result, in
any state and any order; an error in it changes nothing after it. -/
def Obligations.StreamGivesEachWordItsResult : Prop :=
  (∀ (s : State) (ws : List Word), evalStream s ws = ws.map Dec.decode) ∧
  (∀ (s : State) (ws : List Word), evalStream s ws.reverse = (evalStream s ws).reverse)

/-- An instruction's canonical word, put on DEC's input in any state, is evaluated by the next step to its breakdown and
back to the same word (the model's convention for supplying words, log 4). -/
def Obligations.SuppliedInstructionIsEvaluated : Prop :=
  ∀ (s : State) (i : Instr), ∃ t, step (s.withFetchWord 32 (encode i).toNat) = .next t ∧
    t.decoded = .ok i.breakdown ∧ t.recoded = .ok (encode i) ∧ t.word = encode i ∧ t.encIn = s.encIn

/-- R170, R171: the six error kinds and their numbers, 0 kept for no error. -/
def Obligations.ErrorCodesAreNumbered : Prop :=
  ErrorKind.unknownFormat.code = 1 ∧ ErrorKind.outOfRange.code = 2 ∧ ErrorKind.malformedOperand.code = 3 ∧
  ErrorKind.unknownRegisterName.code = 4 ∧ ErrorKind.unknownFunctionName.code = 5 ∧
  ErrorKind.invalidArgumentCount.code = 6 ∧
  (∀ e e' : ErrorKind, e.code = e'.code → e = e') ∧ (∀ e : ErrorKind, e.code ≠ 0)

/-! ### The boundary layer, for every set of tables that meets R155 -/

/-- R151: register_name on every index. -/
def Obligations.RegisterNameLookup : Prop :=
  ∀ T : NameTables, T.wf = true →
    registerName T 0 = .ok ['z', 'e', 'r', 'o'] ∧ registerName T 31 = .ok ['t', '6'] ∧
    (∀ i : Nat, i < 32 → ∃ n, T.regName[i]? = some n ∧ registerName T i = .ok n) ∧
    (∀ i : Nat, 32 ≤ i → registerName T i = .err .outOfRange)

/-- R152: function_name on every index. -/
def Obligations.FunctionNameLookup : Prop :=
  ∀ T : NameTables, T.wf = true →
    (∀ i : Nat, i < 8 → ∃ n, T.funcName[i]? = some n ∧ functionName T i = .ok n) ∧
    (∀ i : Nat, 8 ≤ i → functionName T i = .err .outOfRange)

/-- R153: width_text resolves 0, 1, 2, 4, 5 to distinct texts and fails on 3 and from 6 up. -/
def Obligations.WidthTextLookup : Prop :=
  ∀ T : NameTables, T.wf = true →
    (∀ i : Nat, i = 0 ∨ i = 1 ∨ i = 2 ∨ i = 4 ∨ i = 5 → ∃ n, (i, n) ∈ T.widthText ∧ widthText T i = .ok n) ∧
    (∀ i : Nat, i = 3 ∨ 6 ≤ i → widthText T i = .err .outOfRange) ∧
    (∀ (i j : Nat) (n : Text), widthText T i = .ok n → widthText T j = .ok n → i = j)

/-- The default tables of D8 (log 9, the spec's own choice) meet the constraints of R155. -/
def Obligations.DefaultTablesAreWellFormed : Prop := defaultTables.wf = true

/-- R154, R163, R174: from an integer on, the decode entry point fails exactly when decode_checked does and with its
error, so with no lookup error but the width's OutOfRange. -/
def Obligations.DecodeEntryFailsAsDecodeChecked : Prop :=
  ∀ (T : NameTables) (w : Word), T.wf = true →
    (∀ e, decodeEntry T w = .err e ↔ Dec.decodeChecked w = .err e) ∧
    (∀ b n, decodeEntry T w = .ok (b, n) → Dec.decode w = .ok b ∧ resolveNames T b = .ok n)

/-- R156: the five suffixes and their codes; any other suffix is UnknownFunctionName (D15). -/
def Obligations.SuffixesGiveTheirWidths : Prop :=
  widthFromSuffix ['b'] = .ok 0 ∧ widthFromSuffix ['h'] = .ok 1 ∧ widthFromSuffix ['w'] = .ok 2 ∧
  widthFromSuffix ['b', 'u'] = .ok 4 ∧ widthFromSuffix ['h', 'u'] = .ok 5 ∧
  (∀ s : Text, s ∉ [['b'], ['h'], ['w'], ['b', 'u'], ['h', 'u']] → widthFromSuffix s = .err .unknownFunctionName) ∧
  (∀ (s : Text) (c : Code3), widthFromSuffix s = .ok c → c ≠ 3 ∧ c ≠ 6 ∧ c ≠ 7)

/-- R157: an exact match against the eight function names. -/
def Obligations.FunctionMnemonicIsAnExactMatch : Prop :=
  ∀ (T : NameTables) (s : Text), T.wf = true →
    (∀ f : Code3, functionFromMnemonic T s = .ok f ↔ T.funcName[f.toNat]? = some s) ∧
    (s ∉ T.funcName → functionFromMnemonic T s = .err .unknownFunctionName)

/-- R158 and the reading D15 gives it: an exact match of the text before the first delimiter. -/
def Obligations.RegisterTextIsMatchedToItsDelimiter : Prop :=
  (∀ (T : NameTables) (part rest : Text), T.wf = true → (∀ c ∈ part, isDelimiter c = false) →
    (rest = [] ∨ ∃ c cs, rest = c :: cs ∧ isDelimiter c = true) →
    (∀ r : RegIx, registerFromName T (part ++ rest) = .ok r ↔ T.regName[r.toNat]? = some part) ∧
    (part ∉ T.regName → registerFromName T (part ++ rest) = .err .unknownRegisterName)) ∧
  (∀ c : Char, isDelimiter c = true ↔ c = ',' ∨ c = ')' ∨ c = ' ' ∨ c = '\t' ∨ c = '\n' ∨ c = '\r') ∧
  registerFromName defaultTables ['a', '0', ','] = .ok 10 ∧ registerFromName defaultTables ['a', '0', ')'] = .ok 10 ∧
  registerFromName defaultTables ['a', '0'] = .ok 10 ∧ registerFromName defaultTables ['s', '1'] = .ok 9

/-- R159: the memory operand, and when it is malformed; a malformed offset before an unknown register (R176). -/
def Obligations.MemoryOperandIsSplitAtItsParentheses : Prop :=
  (∀ (T : NameTables) (s : Text), '(' ∉ s → parseMemOperand T s = .err .malformedOperand) ∧
  (∀ (T : NameTables) (off rest : Text), '(' ∉ off → ')' ∉ rest →
    parseMemOperand T (off ++ '(' :: rest) = .err .malformedOperand) ∧
  (∀ (T : NameTables) (off reg rest : Text), '(' ∉ off → ')' ∉ reg → number off = none →
    parseMemOperand T (off ++ '(' :: (reg ++ ')' :: rest)) = .err .malformedOperand) ∧
  (∀ (T : NameTables) (off reg rest : Text) (x : Int), '(' ∉ off → ')' ∉ reg → number off = some x →
    parseMemOperand T (off ++ '(' :: (reg ++ ')' :: rest)) = (registerFromName T reg).map (fun r => (x, r))) ∧
  parseMemOperand defaultTables ['-', '4', '(', 's', 'p', ')'] = .ok (-4, 2)

/-- R160: `lui`, then the function names, then `l` and a suffix, then `s` and a suffix. -/
def Obligations.MnemonicsAreSortedInOrder : Prop :=
  (∀ T : NameTables, sortMnemonic T ['l', 'u', 'i'] = .ok .constant) ∧
  (∀ (T : NameTables) (s : Text) (f : Code3), s ≠ ['l', 'u', 'i'] → functionFromMnemonic T s = .ok f →
    sortMnemonic T s = .ok (.math f)) ∧
  (∀ (T : NameTables) (suffix : Text) (w : Code3), T.wf = true → widthFromSuffix suffix = .ok w →
    sortMnemonic T ('l' :: suffix) = .ok (.load w) ∧ sortMnemonic T ('s' :: suffix) = .ok (.store w)) ∧
  (∀ (T : NameTables) (s : Text), T.wf = true → s ∉ T.funcName → s ∉ otherMnemonics →
    sortMnemonic T s = .err .unknownFunctionName) ∧
  sortMnemonic defaultTables ['s', 'b', 'u'] = .ok (.store 4) ∧
  sortMnemonic defaultTables ['s', 'h', 'u'] = .ok (.store 5) ∧
  sortMnemonic defaultTables ['s', 'l', 't', 'u'] = .ok (.math 3)

/-- R161 with D15: decimal or `0x` hexadecimal, with an optional leading minus: the characters that are digits and their
values, what a text of digits is worth, and which of the two a text is. The letters a to f in either case are the model's
reading (log 10). -/
def Obligations.NumbersAreReadInTheirBase : Prop :=
  (∀ (c : Char) (d : Nat), decDigit c = some d ↔ "0123456789".toList[d]? = some c) ∧
  (∀ (c : Char) (d : Nat), hexDigit c = some d ↔
    "0123456789abcdef".toList[d]? = some c ∨ "0123456789ABCDEF".toList[d]? = some c) ∧
  (∀ t : Text, t.head? ≠ some '-' → number t = (magnitude t).map (fun n => (n : Int))) ∧
  (∀ t : Text, t.take 2 ≠ ['0', 'x'] → magnitude t = digits 10 decDigit t) ∧
  (∀ h : Text, magnitude ('0' :: 'x' :: h) = digits 16 hexDigit h) ∧
  (∀ (base : Nat) (digit : Char → Option Nat) (c : Char) (cs : Text),
    digits base digit (c :: cs) = digitsFrom base digit 0 (c :: cs) ∧ digits base digit [] = none) ∧
  (∀ (base a : Nat) (digit : Char → Option Nat), digitsFrom base digit a [] = some a) ∧
  (∀ (a : Nat) (ds : Text) (n : Nat), digitsFrom 10 decDigit a ds = some n → ∀ c : Char, ∀ d : Nat,
    decDigit c = some d → digitsFrom 10 decDigit a (ds ++ [c]) = some (n * 10 + d)) ∧
  (∀ (a : Nat) (ds : Text) (n : Nat), digitsFrom 16 hexDigit a ds = some n → ∀ c : Char, ∀ d : Nat,
    hexDigit c = some d → digitsFrom 16 hexDigit a (ds ++ [c]) = some (n * 16 + d)) ∧
  (∀ h : Text, number ('0' :: 'x' :: h) = (digits 16 hexDigit h).map (fun n => (n : Int))) ∧
  (∀ m : Text, number ('-' :: m) = (magnitude m).map (fun n => -(n : Int))) ∧
  (∀ (a : Nat) (base : Nat) (digit : Char → Option Nat) (ds es : Text) (c : Char), digit c = none →
    digitsFrom base digit a (ds ++ c :: es) = none) ∧
  number [] = none ∧ number ['-'] = none ∧ number ['0', 'x'] = none ∧ number ['8'] = some 8 ∧
  number ['-', '4'] = some (-4) ∧ number ['0', 'x', '7', 'F', 'F'] = some 2047 ∧ number ['x'] = none

/-- R176's text path: the mnemonic's error first, then the count, then the operands from left to right, and with every
operand readable no error. -/
def Obligations.TextErrorsComeInOrder : Prop :=
  ∀ (T : NameTables) (line m : Text) (ops : List Text), tokens line = m :: ops →
    (∀ e, sortMnemonic T m = .err e → encodeText T line = .err e) ∧
    (∀ k, sortMnemonic T m = .ok k → ops.length + 1 ≠ k.tokenCount → encodeText T line = .err .invalidArgumentCount) ∧
    (∀ k, sortMnemonic T m = .ok k → ops.length + 1 = k.tokenCount →
      encodeText T line ≠ .err .invalidArgumentCount ∧
      (∀ r e, ops.head? = some r → registerFromName T r = .err e → encodeText T line = .err e)) ∧
    (∀ c r mem d, sortMnemonic T m = .ok (.load c) → ops = [r, mem] → registerFromName T r = .ok d →
      (∀ e, parseMemOperand T mem = .err e → encodeText T line = .err e) ∧
      (∀ x b, parseMemOperand T mem = .ok (x, b) → encodeText T line =
        .ok (Enc.encodeLoad (c.setWidth 32) (d.setWidth 32) (b.setWidth 32) (inputOfInt x)))) ∧
    (∀ c r mem d, sortMnemonic T m = .ok (.store c) → ops = [r, mem] → registerFromName T r = .ok d →
      (∀ e, parseMemOperand T mem = .err e → encodeText T line = .err e) ∧
      (∀ x b, parseMemOperand T mem = .ok (x, b) → encodeText T line =
        .ok (Enc.encodeStore (c.setWidth 32) (b.setWidth 32) (d.setWidth 32) (inputOfInt x)))) ∧
    (∀ f r1 r2 r3 d, sortMnemonic T m = .ok (.math f) → ops = [r1, r2, r3] → registerFromName T r1 = .ok d →
      (∀ e, registerFromName T r2 = .err e → encodeText T line = .err e) ∧
      (∀ a e, registerFromName T r2 = .ok a → registerFromName T r3 = .err e → encodeText T line = .err e) ∧
      (∀ a b, registerFromName T r2 = .ok a → registerFromName T r3 = .ok b → encodeText T line =
        .ok (Enc.encodeMath (f.setWidth 32) (a.setWidth 32) (b.setWidth 32) (d.setWidth 32)))) ∧
    (∀ r val d, sortMnemonic T m = .ok .constant → ops = [r, val] → registerFromName T r = .ok d →
      (number val = none → encodeText T line = .err .malformedOperand) ∧
      (∀ x, number val = some x → encodeText T line =
        .ok (Enc.encodeConstant (inputOfInt x) (d.setWidth 32))))

/-- R162's examples, with the default tables (D8, log 9). -/
def Obligations.EncodeTextExamples : Prop :=
  encodeText defaultTables ['l', 'u', 'i', ' ', 'a', '0', ',', '1'] = .ok 0x00001537 ∧
  encodeText defaultTables ['s', 'w', ' ', 'a', '0', ',', '8', '(', 's', 'p', ')'] = .ok 0x00A12423 ∧
  encodeText defaultTables ['l', 'b', ' ', 'a', '0', ',', '0', '(', 'a', '1', ')'] = .ok 0x00058503 ∧
  encodeText defaultTables ['a', 'd', 'd', ' ', 'a', '0', ',', 'a', '1', ',', 'a', '2'] = .ok 0x00C58533 ∧
  encodeText defaultTables ['a', 'd', 'd', ' ', 'a', '0', ',', 'a', '1'] = .err .invalidArgumentCount ∧
  encodeText defaultTables ['l', 'w', ' ', 'a', '0', ',', '8'] = .err .malformedOperand ∧
  encodeText defaultTables ['a', 'd', 'd', ' ', 'a', '0', ',', 'a', '1', ',', 'q', '9'] = .err .unknownRegisterName ∧
  encodeText defaultTables ['m', 'u', 'l', ' ', 'a', '0', ',', 'a', '1', ',', 'a', '2'] = .err .unknownFunctionName

/-- R165: every accepted line packs to a word that decodes to the format its mnemonic chose, with the registers named,
the code the mnemonic gave, and the number written reduced to the field, unsigned. -/
def Obligations.AcceptedTextDecodesToWhatItNames : Prop :=
  ∀ (T : NameTables) (line : Text) (w : Word), encodeText T line = .ok w →
    ∃ m ops k, tokens line = m :: ops ∧ sortMnemonic T m = .ok k ∧ Dec.classify w = .ok k.format ∧
      match k with
      | .load c => ∃ r mem d x b, ops = [r, mem] ∧ registerFromName T r = .ok d ∧ parseMemOperand T mem = .ok (x, b) ∧
          ∃ o : Offset, Dec.decode w = .ok (.load c d b o) ∧ (o.toNat : Int) = x % 4096
      | .store c => ∃ r mem d x b, ops = [r, mem] ∧ registerFromName T r = .ok d ∧ parseMemOperand T mem = .ok (x, b) ∧
          ∃ o : Offset, Dec.decode w = .ok (.store c b d o) ∧ (o.toNat : Int) = x % 4096
      | .math f => ∃ r1 r2 r3 d a b, ops = [r1, r2, r3] ∧ registerFromName T r1 = .ok d ∧
          registerFromName T r2 = .ok a ∧ registerFromName T r3 = .ok b ∧ Dec.decode w = .ok (.math f a b d)
      | .constant => ∃ r val d x, ops = [r, val] ∧ registerFromName T r = .ok d ∧ number val = some x ∧
          ∃ v : Value, Dec.decode w = .ok (.constant v d) ∧ (v.toNat : Int) = x % 1048576

/-- R164: the binary string is the word's 32 bits, bit 31 first, in eight groups of four, with the separator between them
that the style gives (log 21). -/
def Obligations.BinaryTextGroupsTheBits : Prop :=
  (∀ w : Word, (binaryGroups w).length = 8 ∧ ∀ g ∈ binaryGroups w, g.length = 4) ∧
  (∀ w : Word, (binaryGroups w).flatten = (List.range 32).map (fun i => if w.getLsbD (31 - i) then '1' else '0')) ∧
  (∀ (style : DisplayStyle) (w : Word), ∃ g0 g1 g2 g3 g4 g5 g6 g7, binaryGroups w = [g0, g1, g2, g3, g4, g5, g6, g7] ∧
    binaryText style w = g0 ++ style.separator ++ g1 ++ style.separator ++ g2 ++ style.separator ++ g3 ++
      style.separator ++ g4 ++ style.separator ++ g5 ++ style.separator ++ g6 ++ style.separator ++ g7) ∧
  binaryText ⟨[' '], true, 1⟩ 0x00000003 =
    ['0', '0', '0', '0', ' ', '0', '0', '0', '0', ' ', '0', '0', '0', '0', ' ', '0', '0', '0', '0', ' '] ++
    ['0', '0', '0', '0', ' ', '0', '0', '0', '0', ' ', '0', '0', '0', '0', ' ', '0', '0', '1', '1']

/-- R175 and R171's "raised by" column: the four text errors arise in the text layer and never in DEC, whose operations
raise UnknownFormat and OutOfRange alone (ENC's operations answer words and raise nothing); the text layer's encode path
raises those four alone, each helper its own, for any tables and any line, a line without a token among them (log 12). -/
def Obligations.TextErrorsAriseInTheTextLayerAlone : Prop :=
  (∀ (w : Word) (e : ErrorKind), Dec.classify w = .err e ∨ Dec.decode w = .err e → e = .unknownFormat) ∧
  (∀ (w : Word) (e : ErrorKind), Dec.decodeChecked w = .err e → e = .unknownFormat ∨ e = .outOfRange) ∧
  (∀ s t : State, step s = .next t →
    (∀ e, t.decoded = .err e ∨ t.recoded = .err e → e = .unknownFormat) ∧
    (∀ e, t.checked = .err e → e = .unknownFormat ∨ e = .outOfRange)) ∧
  (∀ (T : NameTables) (line : Text) (e : ErrorKind), encodeText T line = .err e →
    e = .malformedOperand ∨ e = .unknownRegisterName ∨ e = .unknownFunctionName ∨ e = .invalidArgumentCount) ∧
  (∀ (T : NameTables) (s : Text) (e : ErrorKind), registerFromName T s = .err e → e = .unknownRegisterName) ∧
  (∀ (T : NameTables) (s : Text) (e : ErrorKind), parseMemOperand T s = .err e →
    e = .malformedOperand ∨ e = .unknownRegisterName) ∧
  (∀ (T : NameTables) (s : Text) (e : ErrorKind),
    widthFromSuffix s = .err e ∨ functionFromMnemonic T s = .err e ∨ sortMnemonic T s = .err e →
    e = .unknownFunctionName)
end

