-- ==== Sys2Proof/Laws/Codec.lean ====
section
/-! SUPPORT. What the shared operations of DEC and ENC can do, once each. -/

namespace Sys2Proof

@[simp] theorem Result.map_ok {α β : Type} (f : α → β) (a : α) : (Result.ok a).map f = .ok (f a) := rfl
@[simp] theorem Result.map_err {α β : Type} (f : α → β) (e : ErrorKind) : (Result.err e : Result α).map f = .err e := rfl
@[simp] theorem Result.bind_ok {α β : Type} (a : α) (f : α → Result β) : (Result.ok a).bind f = f a := rfl
@[simp] theorem Result.bind_err {α β : Type} (e : ErrorKind) (f : α → Result β) :
    (Result.err e : Result α).bind f = .err e := rfl

/-- A mapped result is a value only over a value. -/
theorem Result.map_eq_ok {α β : Type} {f : α → β} {r : Result α} {b : β} (h : r.map f = .ok b) :
    ∃ a, r = .ok a ∧ f a = b := by
  cases r with
  | ok a => exact ⟨a, rfl, by simpa using h⟩
  | err e => simp at h

/-- A bound result is a value only over a value. -/
theorem Result.bind_eq_ok {α β : Type} {r : Result α} {f : α → Result β} {b : β} (h : r.bind f = .ok b) :
    ∃ a, r = .ok a ∧ f a = .ok b := by
  cases r with
  | ok a => exact ⟨a, rfl, by simpa using h⟩
  | err e => simp at h

/-- One bit of an extracted field. -/
theorem fieldAt_getLsbD (n : Nat) (w : Word) (shift : Nat) (mask : Word) (i : Nat) :
    (fieldAt n w shift mask).getLsbD i = (decide (i < n) && (w.getLsbD (shift + i) && mask.getLsbD i)) := by
  by_cases h : i < n <;> simp [fieldAt, h]

/-- What classify can answer, and the opcode behind each answer. -/
theorem Dec.classify_cases (w : Word) :
    (Dec.classify w = .ok .load ∧ Dec.extractOpcode w = 0x00) ∨
    (Dec.classify w = .ok .store ∧ Dec.extractOpcode w = 0x08) ∨
    (Dec.classify w = .ok .math ∧ Dec.extractOpcode w = 0x0C) ∨
    (Dec.classify w = .ok .constant ∧ Dec.extractOpcode w = 0x0D) ∨
    (Dec.classify w = .err .unknownFormat ∧ Dec.extractOpcode w ≠ 0x00 ∧ Dec.extractOpcode w ≠ 0x08 ∧
      Dec.extractOpcode w ≠ 0x0C ∧ Dec.extractOpcode w ≠ 0x0D) := by
  unfold Dec.classify
  generalize Dec.extractOpcode w = op
  revert op
  decide

/-- Every 3-bit code is one of the eight. -/
theorem code3_cases (c : Code3) : c = 0 ∨ c = 1 ∨ c = 2 ∨ c = 3 ∨ c = 4 ∨ c = 5 ∨ c = 6 ∨ c = 7 := by
  revert c
  decide

/-- The instruction of a breakdown has that breakdown. -/
@[simp] theorem Breakdown.instr_breakdown (b : Breakdown) : b.instr.breakdown = b := by
  cases b with
  | load c d r o =>
    rcases code3_cases c with h | h | h | h | h | h | h | h <;> subst h <;> rfl
  | store c d r o =>
    rcases code3_cases c with h | h | h | h | h | h | h | h <;> subst h <;> rfl
  | math c d r o =>
    rcases code3_cases c with h | h | h | h | h | h | h | h <;> subst h <;> rfl
  | constant v d => rfl

/-- The checked decode of a breakdown either hands it on or refuses its width. -/
theorem Dec.checkWidth_cases (b : Breakdown) :
    Dec.checkWidth b = .ok b ∨ Dec.checkWidth b = .err .outOfRange := by
  cases b with
  | load c _ _ _ =>
    unfold Dec.checkWidth
    by_cases h : widthCodeValid c = true <;> simp [h]
  | store c _ _ _ =>
    unfold Dec.checkWidth
    by_cases h : widthCodeValid c = true <;> simp [h]
  | math => exact .inl rfl
  | constant => exact .inl rfl

/-- An instruction decode is the instruction of a breakdown decode. -/
theorem decode_eq_ok {w : Word} {i : Instr} (h : decode w = .ok i) :
    Dec.decode w = .ok i.breakdown := by
  obtain ⟨b, hb, rfl⟩ := Result.map_eq_ok h
  simpa using hb

end Sys2Proof
end

