-- ==== Sys2Proof/Laws/Names.lean ====
section
/-! SUPPORT. What the boundary layer's shared operations can do. -/

namespace Sys2Proof.Machine

/-- The parts of a text around the first `c`. -/
theorem splitFirst_append (c : Char) (before after : Text) (h : c ∉ before) :
    splitFirst c (before ++ c :: after) = some (before, after) := by
  induction before with
  | nil => simp [splitFirst]
  | cons d ds ih =>
    simp only [List.mem_cons, not_or] at h
    simp [splitFirst, Ne.symm h.1, ih h.2]

/-- A text without `c` has no split at it. -/
theorem splitFirst_none (c : Char) (t : Text) (h : c ∉ t) : splitFirst c t = none := by
  induction t with
  | nil => rfl
  | cons d ds ih =>
    simp only [List.mem_cons, not_or] at h
    simp [splitFirst, Ne.symm h.1, ih h.2]

/-- Reading digits can be cut in two. -/
theorem digitsFrom_append (base : Nat) (digit : Char → Option Nat) (acc : Nat) (ds es : Text) :
    digitsFrom base digit acc (ds ++ es) =
      (digitsFrom base digit acc ds).bind fun n => digitsFrom base digit n es := by
  induction ds generalizing acc with
  | nil => simp [digitsFrom]
  | cons c cs ih =>
    simp only [List.cons_append, digitsFrom]
    cases digit c with
    | none => simp
    | some d => simp [ih]

/-- The pieces between splitting characters, joined, are the text without those characters. -/
theorem splitAtChars_flatten (p : Char → Bool) (t : Text) :
    (splitAtChars p t).flatten = t.filter (fun c => !p c) := by
  induction t with
  | nil => rfl
  | cons c cs ih =>
    unfold splitAtChars
    by_cases h : p c = true
    · simp [h, ih]
    · cases hs : splitAtChars p cs with
      | nil => simp [hs] at ih; simpa [h] using ih
      | cons t ts => simp [hs] at ih; simp [h, ← ih]

end Sys2Proof.Machine
end

