-- ==== Sys2Proof/Laws/PerInstr.lean ====
section
/-! SUPPORT. Per-instruction lemmas: an instruction is recovered from its breakdown. -/

namespace Sys2Proof.Laws.Breakdowns

/-- The breakdown of an instruction spells that instruction again. -/
def Statement (i : Instr) : Prop := i.breakdown.instr = i

theorem lb (x y : RegIx) (z : Offset) : Statement (.lb x y z) := rfl
theorem lh (x y : RegIx) (z : Offset) : Statement (.lh x y z) := rfl
theorem lw (x y : RegIx) (z : Offset) : Statement (.lw x y z) := rfl
theorem loadWidth3 (x y : RegIx) (z : Offset) : Statement (.loadWidth3 x y z) := rfl
theorem lbu (x y : RegIx) (z : Offset) : Statement (.lbu x y z) := rfl
theorem lhu (x y : RegIx) (z : Offset) : Statement (.lhu x y z) := rfl
theorem loadWidth6 (x y : RegIx) (z : Offset) : Statement (.loadWidth6 x y z) := rfl
theorem loadWidth7 (x y : RegIx) (z : Offset) : Statement (.loadWidth7 x y z) := rfl
theorem sb (x y : RegIx) (z : Offset) : Statement (.sb x y z) := rfl
theorem sh (x y : RegIx) (z : Offset) : Statement (.sh x y z) := rfl
theorem sw (x y : RegIx) (z : Offset) : Statement (.sw x y z) := rfl
theorem storeWidth3 (x y : RegIx) (z : Offset) : Statement (.storeWidth3 x y z) := rfl
theorem sbu (x y : RegIx) (z : Offset) : Statement (.sbu x y z) := rfl
theorem shu (x y : RegIx) (z : Offset) : Statement (.shu x y z) := rfl
theorem storeWidth6 (x y : RegIx) (z : Offset) : Statement (.storeWidth6 x y z) := rfl
theorem storeWidth7 (x y : RegIx) (z : Offset) : Statement (.storeWidth7 x y z) := rfl
theorem add (x y : RegIx) (z : RegIx) : Statement (.add x y z) := rfl
theorem sll (x y : RegIx) (z : RegIx) : Statement (.sll x y z) := rfl
theorem slt (x y : RegIx) (z : RegIx) : Statement (.slt x y z) := rfl
theorem sltu (x y : RegIx) (z : RegIx) : Statement (.sltu x y z) := rfl
theorem xor (x y : RegIx) (z : RegIx) : Statement (.xor x y z) := rfl
theorem srl (x y : RegIx) (z : RegIx) : Statement (.srl x y z) := rfl
theorem or (x y : RegIx) (z : RegIx) : Statement (.or x y z) := rfl
theorem and (x y : RegIx) (z : RegIx) : Statement (.and x y z) := rfl
theorem lui (dest : RegIx) (value : Value) : Statement (.lui dest value) := rfl

end Sys2Proof.Laws.Breakdowns
end

