-- ==== Sys2Proof/Laws/State.lean ====
section
/-! SUPPORT. One lemma per field per update of the state, so that no later proof unfolds an update. -/

namespace Sys2Proof.Machine

@[simp] theorem State.setWord_word (s : State) (w : Word) : (s.setWord w).word = w := rfl
@[simp] theorem State.setWord_encIn (s : State) (w : Word) : (s.setWord w).encIn = s.encIn := rfl
@[simp] theorem State.setWord_dec (s : State) (w : Word) : (s.setWord w).dec = s.dec := rfl
@[simp] theorem State.setWord_encWord (s : State) (w : Word) : (s.setWord w).encWord = s.encWord := rfl
@[simp] theorem State.setWord_decoded (s : State) (w : Word) : (s.setWord w).decoded = s.decoded := rfl
@[simp] theorem State.setWord_checked (s : State) (w : Word) : (s.setWord w).checked = s.checked := rfl
@[simp] theorem State.setWord_recoded (s : State) (w : Word) : (s.setWord w).recoded = s.recoded := rfl

@[simp] theorem State.setCall_word (s : State) (c : EncCall) : (s.setCall c).word = s.word := rfl
@[simp] theorem State.setCall_encIn (s : State) (c : EncCall) : (s.setCall c).encIn = c := rfl
@[simp] theorem State.setCall_dec (s : State) (c : EncCall) : (s.setCall c).dec = s.dec := rfl
@[simp] theorem State.setCall_encWord (s : State) (c : EncCall) : (s.setCall c).encWord = s.encWord := rfl
@[simp] theorem State.setCall_decoded (s : State) (c : EncCall) : (s.setCall c).decoded = s.decoded := rfl
@[simp] theorem State.setCall_checked (s : State) (c : EncCall) : (s.setCall c).checked = s.checked := rfl
@[simp] theorem State.setCall_recoded (s : State) (c : EncCall) : (s.setCall c).recoded = s.recoded := rfl

@[simp] theorem State.settlePorts_word (s : State) : s.settlePorts.word = s.word := rfl
@[simp] theorem State.settlePorts_encIn (s : State) : s.settlePorts.encIn = s.encIn := rfl
@[simp] theorem State.settlePorts_dec (s : State) : s.settlePorts.dec = decPorts s.word := rfl
@[simp] theorem State.settlePorts_encWord (s : State) : s.settlePorts.encWord = Enc.word s.encIn := rfl
@[simp] theorem State.settlePorts_decoded (s : State) : s.settlePorts.decoded = s.decoded := rfl
@[simp] theorem State.settlePorts_checked (s : State) : s.settlePorts.checked = s.checked := rfl
@[simp] theorem State.settlePorts_recoded (s : State) : s.settlePorts.recoded = s.recoded := rfl

@[simp] theorem State.deliver_word (s : State) (b : Breakdown) : (s.deliver b).word = s.word := rfl
@[simp] theorem State.deliver_encIn (s : State) (b : Breakdown) : (s.deliver b).encIn = s.encIn := rfl
@[simp] theorem State.deliver_dec (s : State) (b : Breakdown) : (s.deliver b).dec = s.dec := rfl
@[simp] theorem State.deliver_encWord (s : State) (b : Breakdown) : (s.deliver b).encWord = s.encWord := rfl
@[simp] theorem State.deliver_decoded (s : State) (b : Breakdown) : (s.deliver b).decoded = .ok b := rfl
@[simp] theorem State.deliver_checked (s : State) (b : Breakdown) : (s.deliver b).checked = Dec.checkWidth b := rfl
@[simp] theorem State.deliver_recoded (s : State) (b : Breakdown) : (s.deliver b).recoded = .ok (Enc.encode b) := rfl

@[simp] theorem State.deliverError_word (s : State) (e : ErrorKind) : (s.deliverError e).word = s.word := rfl
@[simp] theorem State.deliverError_encIn (s : State) (e : ErrorKind) : (s.deliverError e).encIn = s.encIn := rfl
@[simp] theorem State.deliverError_dec (s : State) (e : ErrorKind) : (s.deliverError e).dec = s.dec := rfl
@[simp] theorem State.deliverError_encWord (s : State) (e : ErrorKind) : (s.deliverError e).encWord = s.encWord := rfl
@[simp] theorem State.deliverError_decoded (s : State) (e : ErrorKind) : (s.deliverError e).decoded = .err e := rfl
@[simp] theorem State.deliverError_checked (s : State) (e : ErrorKind) : (s.deliverError e).checked = .err e := rfl
@[simp] theorem State.deliverError_recoded (s : State) (e : ErrorKind) : (s.deliverError e).recoded = .err e := rfl

end Sys2Proof.Machine
end

