-- ==== Sys2Proof/Laws/Step.lean ====
section
/-! SUPPORT. What exec and step can do, once each; every later proof about them cites these. -/

namespace Sys2Proof.Machine

/-- Delivering a result never stops. -/
theorem complete_eq (b : Breakdown) (s : State) : complete b s = .next (s.deliver b) := rfl

/-- Delivering an error never stops. -/
theorem reject_eq (e : ErrorKind) (s : State) : reject e s = .next (s.deliverError e) := rfl

/-- exec hands over the instruction's breakdown, and does nothing else. -/
theorem exec_eq (i : Instr) (s : State) : exec i s = .next (s.deliver i.breakdown) := by
  cases i <;> rfl

/-- A step whose word spells a breakdown settles the ports and delivers it. -/
theorem step_of_ok {s : State} {b : Breakdown} (h : Dec.decode s.word = .ok b) :
    step s = .next (s.settlePorts.deliver b) := by
  unfold step decode fetchWord
  rw [h]
  simp [exec_eq]

/-- A step whose word spells no instruction settles the ports and delivers the error. -/
theorem step_of_err {s : State} {e : ErrorKind} (h : Dec.decode s.word = .err e) :
    step s = .next (s.settlePorts.deliverError e) := by
  unfold step decode fetchWord
  rw [h]
  rfl

/-- What a step can do: one of two next states, and never a fault or a refusal. -/
theorem step_cases (s : State) :
    (∃ b, Dec.decode s.word = .ok b ∧ step s = .next (s.settlePorts.deliver b)) ∨
    (∃ e, Dec.decode s.word = .err e ∧ step s = .next (s.settlePorts.deliverError e)) := by
  cases h : Dec.decode s.word with
  | ok b => exact .inl ⟨b, rfl, step_of_ok h⟩
  | err e => exact .inr ⟨e, rfl, step_of_err h⟩

end Sys2Proof.Machine
end

