-- ==== Sys2Proof/Tests/Slice0.lean ====
section
/-! SUPPORT. Tests: words written out from the spec's encodings, ill-formed terms the checks refuse, one-step tests, and
for every statement with hypotheses a witness that meets them. -/

open Sys2Proof Sys2Proof.Machine

/-! ### Words written out from R34 to R37, field by field: one per instruction -/

-- R34: offset[11:0] base width dest 00000 11
theorem test_decode_lb : decode 0b000000000000_01011_000_01010_00000_11 = .ok (.lb 10 11 0) := by decide
theorem test_decode_lh : decode 0b000000000010_00110_001_00101_00000_11 = .ok (.lh 5 6 2) := by decide
theorem test_decode_lw : decode 0b000000001000_00010_010_01010_00000_11 = .ok (.lw 10 2 8) := by decide
theorem test_decode_loadWidth3 : decode 0b000000000000_00001_011_00001_00000_11 = .ok (.loadWidth3 1 1 0) := by decide
theorem test_decode_lbu : decode 0b000100100011_01000_100_01111_00000_11 = .ok (.lbu 15 8 0x123) := by decide
theorem test_decode_lhu : decode 0b111111111111_11111_101_11111_00000_11 = .ok (.lhu 31 31 4095) := by decide
theorem test_decode_loadWidth6 : decode 0b000000000000_00001_110_00001_00000_11 = .ok (.loadWidth6 1 1 0) := by decide
theorem test_decode_loadWidth7 : decode 0b100000000000_00010_111_00001_00000_11 = .ok (.loadWidth7 1 2 2048) := by decide

-- R35: offset[11:5] source base width offset[4:0] 01000 11
theorem test_decode_sb : decode 0b0000000_01010_01011_000_00000_01000_11 = .ok (.sb 10 11 0) := by decide
theorem test_decode_sh : decode 0b0111111_00110_00101_001_00000_01000_11 = .ok (.sh 6 5 0x7E0) := by decide
theorem test_decode_sw : decode 0b1010101_01010_00010_010_11100_01000_11 = .ok (.sw 10 2 0xABC) := by decide
theorem test_decode_storeWidth3 : decode 0b0000000_01010_00010_011_01000_01000_11 = .ok (.storeWidth3 10 2 8) := by decide
theorem test_decode_sbu : decode 0b0000000_01010_00010_100_01000_01000_11 = .ok (.sbu 10 2 8) := by decide
theorem test_decode_shu : decode 0b0000000_01010_00010_101_01000_01000_11 = .ok (.shu 10 2 8) := by decide
theorem test_decode_storeWidth6 : decode 0b0000000_01010_00010_110_01000_01000_11 = .ok (.storeWidth6 10 2 8) := by decide
theorem test_decode_storeWidth7 : decode 0b0000000_01010_00010_111_01000_01000_11 = .ok (.storeWidth7 10 2 8) := by decide

-- R36: funct7 operand_b operand_a function dest 01100 11
theorem test_decode_add : decode 0b0000000_00010_00001_000_00011_01100_11 = .ok (.add 3 1 2) := by decide
theorem test_decode_sll : decode 0b0000000_01100_01011_001_01010_01100_11 = .ok (.sll 10 11 12) := by decide
theorem test_decode_slt : decode 0b0100000_01100_01011_010_01010_01100_11 = .ok (.slt 10 11 12) := by decide
theorem test_decode_sltu : decode 0b0100000_01100_01011_011_01010_01100_11 = .ok (.sltu 10 11 12) := by decide
theorem test_decode_xor : decode 0b0100000_01100_01011_100_01010_01100_11 = .ok (.xor 10 11 12) := by decide
theorem test_decode_srl : decode 0b0000000_01100_01011_101_01010_01100_11 = .ok (.srl 10 11 12) := by decide
theorem test_decode_or : decode 0b0100000_01100_01011_110_01010_01100_11 = .ok (.or 10 11 12) := by decide
theorem test_decode_and : decode 0b0100000_01100_01011_111_01010_01100_11 = .ok (.and 10 11 12) := by decide

-- R37: value dest 01101 11
theorem test_decode_lui : decode 0b00010010001101000101_00101_01101_11 = .ok (.lui 5 0x12345) := by decide

-- R45: an opcode of no format; bits [31:25] of Math are not read (R43)
theorem test_decode_unknown : decode 0b00000000110001011000_01010_00100_11 = .err .unknownFormat := by decide
theorem test_decode_math_ignores_top : decode 0b1111111_00010_00001_000_00011_01100_11 = .ok (.add 3 1 2) := by decide

-- R44: the table's row numbers, and numbers past one word (log 20)
theorem test_table_word_lw : decodeTableWord 32 0x00812503 = some (.lw 10 2 8) := by decide
theorem test_table_word_none : decodeTableWord 32 0x0000007F = none ∧ decodeTableWord 40 (2 ^ 32) = none := by decide

/-! ### Ill-formed terms: each check of WellFormed refuses one -/

/-- A call of ENC with every input 0 but the tag. -/
def testCall (fmt : BitVec 2) : EncCall := ⟨fmt, 0, 0, 0, 0, 0⟩

theorem test_inRange_accepts : (testCall 0).inRange = true ∧ (testCall 1).inRange = true ∧ (testCall 2).inRange = true ∧
    (testCall 3).inRange = true := by decide
theorem test_inRange_f3 : { testCall 0 with f3 := 8 }.inRange = false ∧ { testCall 1 with f3 := 8 }.inRange = false ∧
    { testCall 2 with f3 := 8 }.inRange = false := by decide
theorem test_inRange_rd : { testCall 0 with rd := 32 }.inRange = false ∧ { testCall 2 with rd := 32 }.inRange = false ∧
    { testCall 3 with rd := 32 }.inRange = false := by decide
theorem test_inRange_rs1 : { testCall 0 with rs1 := 32 }.inRange = false ∧ { testCall 1 with rs1 := 32 }.inRange = false ∧
    { testCall 2 with rs1 := 32 }.inRange = false := by decide
theorem test_inRange_rs2 : { testCall 1 with rs2 := 32 }.inRange = false ∧
    { testCall 2 with rs2 := 32 }.inRange = false := by decide
theorem test_inRange_imm : { testCall 0 with imm := 4096 }.inRange = false ∧
    { testCall 1 with imm := 4096 }.inRange = false ∧ { testCall 3 with imm := 0x100000 }.inRange = false := by decide
theorem test_inRange_ignored_input : { testCall 3 with f3 := 8, rs1 := 32, rs2 := 32 }.inRange = true := by decide

theorem test_wellFormed_lhu : (Instr.lhu 31 31 4095).wellFormed = true := by decide

theorem test_canonical_accepts : canonical 0x00812503 = true ∧ canonical 0x40C5F533 = true := by decide
theorem test_canonical_low_bits : canonical 0x00812500 = false := by decide
theorem test_canonical_opcode : canonical 0x00000013 = false := by decide
theorem test_canonical_funct7 : canonical 0x00C5F533 = false ∧ canonical 0x40208133 = false := by decide

set_option maxRecDepth 8000 in
theorem test_tables_accept : defaultTables.wf = true := by decide
set_option maxRecDepth 8000 in
theorem test_tables_reg_count : { defaultTables with regName := ['x'] :: defaultRegNames }.wf = false := by decide
set_option maxRecDepth 8000 in
theorem test_tables_zero : { defaultTables with regName := ['x'] :: defaultRegNames.tail }.wf = false := by decide
set_option maxRecDepth 8000 in
theorem test_tables_t6 : { defaultTables with regName := defaultRegNames.take 31 ++ [['x']] }.wf = false := by decide
set_option maxRecDepth 8000 in
theorem test_tables_reg_twice :
    { defaultTables with regName := defaultRegNames.set 5 ['s', 'p'] }.wf = false := by decide
set_option maxRecDepth 8000 in
theorem test_tables_func_count : { defaultTables with funcName := defaultFuncNames.tail }.wf = false := by decide
set_option maxRecDepth 8000 in
theorem test_tables_func_twice :
    { defaultTables with funcName := defaultFuncNames.set 1 ['a', 'd', 'd'] }.wf = false := by decide
set_option maxRecDepth 8000 in
theorem test_tables_func_is_lui :
    { defaultTables with funcName := defaultFuncNames.set 1 ['l', 'u', 'i'] }.wf = false := by decide
set_option maxRecDepth 8000 in
theorem test_tables_width_keys : { defaultTables with widthText := (3, ['x']) :: defaultWidthTexts }.wf = false := by decide
set_option maxRecDepth 8000 in
theorem test_tables_width_twice :
    { defaultTables with widthText := [(0, ['b']), (1, ['b']), (2, ['w']), (4, ['c']), (5, ['d'])] }.wf = false := by decide

/-! ### One step, with the spec's vectors (spec/95_test_vectors.md 2.1, 2.3 to 2.6) -/

/-- A state whose earlier results were an error, with a word on DEC's input and a call on ENC's. -/
def testState (word : Word) (call : EncCall) : State :=
  ((State.reset.deliverError .unknownFormat).setWord word).setCall call

/-- What a step delivers from a word: the breakdown, the checked decode, the word given back, ENC's word. -/
def testResults (word : Word) (call : EncCall) : Option (Result Breakdown × Result Breakdown × Result Word × Word) :=
  match step (testState word call) with
  | .next t => some (t.decoded, t.checked, t.recoded, t.encWord)
  | .fault _ => none
  | .refused _ => none

theorem test_step_lw : testResults 0x00812503 ⟨0, 9, 1, 2, 7, 3⟩ =
    some (.ok (.load 2 10 2 8), .ok (.load 2 10 2 8), .ok 0x00812503, 0x00311083) := by decide
theorem test_step_reserved_width : testResults 0x0000B083 ⟨1, 2, 9, 2, 10, 0xFFFFFFFC⟩ =
    some (.ok (.load 3 1 1 0), .err .outOfRange, .ok 0x0000B083, 0xFEA12E23) := by decide
theorem test_step_math : testResults 0x00C5F533 ⟨2, 8, 3, 1, 2, 9⟩ =
    some (.ok (.math 7 11 12 10), .ok (.math 7 11 12 10), .ok 0x40C5F533, 0x402081B3) := by decide
theorem test_step_lui : testResults 0xFFFFF037 ⟨3, 9, 1, 9, 9, 0x80000⟩ =
    some (.ok (.constant 0xFFFFF 0), .ok (.constant 0xFFFFF 0), .ok 0xFFFFF037, 0x800000B7) := by decide
theorem test_step_unknown : testResults 0xFFFFFFFF ⟨3, 0, 10, 0, 0, 1⟩ =
    some (.err .unknownFormat, .err .unknownFormat, .err .unknownFormat, 0x00001537) := by decide

/-- The ports of DEC on a Store word with its offset split (R82). -/
theorem test_ports_store : decPorts 0xAAA12E23 =
    { opcode := 0x08, fmtValid := true, fmt := 1, err := 0, f3 := 2, rd := 0x1C, rs1 := 2, rs2 := 10,
      ldOffset := 0xAAA, stOffset := 0xABC, cValue := 0xAAA12, widthValid := true } := by decide

theorem test_ports_unknown : (decPorts 0xFFFFFFFF).fmtValid = false ∧ (decPorts 0xFFFFFFFF).err = 1 ∧
    (decPorts 0xFFFFFFFF).opcode = 0x1F ∧ (decPorts 0xFFFFFFFF).widthValid = false := by decide

theorem test_reset_is_settled : step State.reset = .next State.reset := rfl

/-- The state before it differs in its results alone. -/
theorem test_step_from_other_results : step (testState 0 (testCall 0)) = .next State.reset := rfl

/-! ### The boundary layer (spec/46_names_and_text.md, spec/95_test_vectors.md section 2.9) -/

set_option maxRecDepth 8000 in
theorem test_encode_text_lui : encodeText defaultTables ['l', 'u', 'i', ' ', 'a', '0', ',', '1'] = .ok 0x1537 := by decide
set_option maxRecDepth 8000 in
theorem test_encode_text_count :
    encodeText defaultTables ['a', 'd', 'd', ' ', 'a', '0', ',', 'a', '1'] = .err .invalidArgumentCount := by decide
set_option maxRecDepth 8000 in
theorem test_invalid_token :
    invalidToken defaultTables ['a', 'd', 'd', ' ', 'a', '0', ',', 'q', '9', ',', 'a', '2'] = some ['q', '9'] := by decide
theorem test_hex_text : hexText ⟨[' '], true, 8⟩ 0x00A12423 = ['0', '0', 'A', '1', '2', '4', '2', '3'] := by decide
theorem test_hex_text_ends : hexText ⟨[], false, 10⟩ 0xFFFFFFFF = "00ffffffff".toList ∧
    hexText ⟨[], false, 0⟩ 0 = ['0'] ∧ hexText ⟨[], false, 2⟩ 0x123 = "123".toList := by decide

/-! ### Witnesses: the hypotheses of each statement, met -/

theorem witness_OpcodeIsBitsSixToTwo : (0xFFFFFFFF : Word).extractLsb' 2 5 = 0b11111 ∧
    (0x00812503 : Word).extractLsb' 2 5 = (0xFFF00000 : Word).extractLsb' 2 5 := by decide

theorem witness_ClassifyFollowsTheOpcode : Dec.classify 0x0000007F = .err .unknownFormat ∧
    (0x00812503 : Word).extractLsb' 2 5 = (0xFFF00000 : Word).extractLsb' 2 5 := by decide

theorem witness_LoadOffsetIsUnsigned : (0x80010083 : Word).getLsbD 31 = true := by decide

theorem witness_StoreOffsetJoinsItsHalves : (0x7E629023 : Word).extractLsb' 7 5 = 0 ∧
    (0x00629FA3 : Word).extractLsb' 25 7 = 0 := by decide

theorem witness_DecodeIsOneClassificationAndItsFields : Dec.classify 0x00812503 = .ok .load ∧
    Dec.classify 0xAAA12E23 = .ok .store ∧ Dec.classify 0x40C5F533 = .ok .math ∧
    Dec.classify 0xFFFFF037 = .ok .constant ∧ Dec.decode 0xFFFFFFFF = .err .unknownFormat := by decide

theorem witness_DecodeIgnoresTheBitsItDoesNotRead : Dec.classify 0x00812500 = .ok .load ∧
    Dec.classify 0xFFFFFFB3 = .ok .math ∧
    (0x00812500 : Word) &&& 0xFFFFFFFC = (0x00812503 : Word) &&& 0xFFFFFFFC ∧
    (0xFFFFFFB3 : Word) &&& 0x01FFFFFC = (0x01FFFFB0 : Word) &&& 0x01FFFFFC ∧
    (0xFFFFFFB3 : Word) &&& 0x7C = (0x00000033 : Word) &&& 0x7C ∧
    canonical 0x00812503 = true ∧ Dec.decode 0x00812503 = Dec.decode 0x00812503 := by decide

theorem witness_DecodeCheckedRefusesReservedWidths : Dec.decode 0x0000007F = .err .unknownFormat ∧
    (Dec.classify 0x0000B083 = .ok .load ∧ (0x0000B083 : Word).extractLsb' 12 3 = 3) ∧
    (Dec.classify 0x00A16423 = .ok .store ∧ (0x00A16423 : Word).extractLsb' 12 3 = 6) ∧
    (Dec.classify 0x0000F083 = .ok .load ∧ (0x0000F083 : Word).extractLsb' 12 3 = 7) ∧
    (Dec.classify 0x00000000 = .ok .load ∧ (0x00000000 : Word).extractLsb' 12 3 = 0) ∧
    (Dec.classify 0xFFFFDF83 = .ok .load ∧ (0xFFFFDF83 : Word).extractLsb' 12 3 = 5) ∧
    Dec.classify 0x00C5F533 = .ok .math ∧ Dec.classify 0x00000037 = .ok .constant := by decide

theorem witness_EncodeMathPacksItsFields : 8 ≤ (8 : BitVec 32).toNat ∧ 8 ≤ (0xFFFFFFFF : BitVec 32).toNat := by decide

theorem witness_EncoderPortsFollowTheTag : (testState 0 (testCall 0)).encIn.fmt = 0 ∧
    (testState 0 (testCall 1)).encIn.fmt = 1 ∧ (testState 0 (testCall 2)).encIn.fmt = 2 ∧
    (testState 0 (testCall 3)).encIn.fmt = 3 := by decide

theorem witness_NoFieldCorruptsAnother : Enc.encode (.load 7 31 31 4095) = Enc.encode (.load 7 31 31 4095) ∧
    (testCall 0).fmt ≠ (testCall 3).fmt := by decide

theorem witness_EncodeAfterDecodeIsCanon : Dec.decode 0x00C5F533 = .ok (.math 7 11 12 10) ∧
    (0x00812500 : Word).extractLsb' 2 5 = 0x00 ∧ (0x00000020 : Word).extractLsb' 2 5 = 0x08 ∧
    (0x00000034 : Word).extractLsb' 2 5 = 0x0D ∧ (0x00C5F533 : Word).extractLsb' 2 5 = 0x0C ∧
    canonical 0x40C5F533 = true ∧ Dec.decode 0x40C5F533 = .ok (.math 7 11 12 10) := by decide

theorem witness_CanonIsIdempotentAndInvisible : Dec.classify 0x00C5F533 = .ok .math ∧
    Dec.classify 0x00000000 = .ok .load ∧ Dec.classify 0xFFFFFFB4 = .ok .constant := by decide

theorem witness_StoreOffsetSurvivesTheSplit : (0 : BitVec 32).toNat ≤ 0xFFF ∧ (0xFFF : BitVec 32).toNat ≤ 0xFFF := by
  decide

/-- The input on which R97 as the spec words it fails (log 8). -/
theorem test_encoded_word_not_canonical : canonical (Enc.word ⟨2, 8, 3, 1, 2, 0⟩) = false := by decide

theorem witness_EncodedWordsAreCanonicalInRange : (testCall 0).fmt = 0 ∧ (testCall 1).fmt = 1 ∧ (testCall 3).fmt = 3 ∧
    ({ testCall 2 with f3 := 7 }.fmt = 2 ∧ { testCall 2 with f3 := 7 }.f3.toNat < 8) ∧
    canonical 0x00812503 = true := by decide

theorem witness_StepRunsTheDecodedInstruction :
    decode (testState 0x00812503 (testCall 3)).word = .ok (.lw 10 2 8) ∧ (Instr.lw 10 2 8).wellFormed = true := by decide

theorem witness_StepDrivesTheDecoderPorts : (testState 0 (testCall 0)).word = State.reset.word ∧
    step (testState 0 (testCall 0)) = .next State.reset ∧ step State.reset = .next State.reset :=
  ⟨by decide, test_step_from_other_results, test_reset_is_settled⟩

theorem witness_LoadWordsFollowTheirRules : (0xFFF00F80 : Word) &&& 0x0000707C = 0x00000000 ∧
    (0x00001000 : Word) &&& 0x0000707C = 0x00001000 ∧ (0x00002000 : Word) &&& 0x0000707C = 0x00002000 ∧
    (0x00003000 : Word) &&& 0x0000707C = 0x00003000 ∧ (0x00004000 : Word) &&& 0x0000707C = 0x00004000 ∧
    (0x00005000 : Word) &&& 0x0000707C = 0x00005000 ∧ (0x00006000 : Word) &&& 0x0000707C = 0x00006000 ∧
    (0xFFFFFF83 : Word) &&& 0x0000707C = 0x00007000 ∧ widthText defaultTables 3 = .err .outOfRange := by decide

theorem witness_StoreWordsFollowTheirRules : (0xFFFF8FA3 : Word) &&& 0x0000707C = 0x00000020 ∧
    (0x00001020 : Word) &&& 0x0000707C = 0x00001020 ∧ (0x00002020 : Word) &&& 0x0000707C = 0x00002020 ∧
    (0x00003020 : Word) &&& 0x0000707C = 0x00003020 ∧ (0x00004020 : Word) &&& 0x0000707C = 0x00004020 ∧
    (0x00005020 : Word) &&& 0x0000707C = 0x00005020 ∧ (0x00006020 : Word) &&& 0x0000707C = 0x00006020 ∧
    (0xFFFFFFA3 : Word) &&& 0x0000707C = 0x00007020 ∧ widthText defaultTables 6 = .err .outOfRange := by decide

theorem witness_MathWordsFollowTheirRules : (0xFFFF8FB3 : Word) &&& 0x0000707C = 0x00000030 ∧
    (0x00001030 : Word) &&& 0x0000707C = 0x00001030 ∧ (0x00002030 : Word) &&& 0x0000707C = 0x00002030 ∧
    (0x00003030 : Word) &&& 0x0000707C = 0x00003030 ∧ (0x00004030 : Word) &&& 0x0000707C = 0x00004030 ∧
    (0x00005030 : Word) &&& 0x0000707C = 0x00005030 ∧ (0x00006030 : Word) &&& 0x0000707C = 0x00006030 ∧
    (0xFFFFFFB3 : Word) &&& 0x0000707C = 0x00007030 ∧ (0xFFFFFFFA : BitVec 32).setWidth 3 = (2 : Code3) ∧
    (3 : BitVec 32).setWidth 3 = (3 : Code3) ∧ (12 : BitVec 32).setWidth 3 = (4 : Code3) ∧
    (6 : BitVec 32).setWidth 3 = (6 : Code3) ∧ (0xFFFFFFFF : BitVec 32).setWidth 3 = (7 : Code3) := by decide

theorem witness_ConstantWordsFollowTheirRule : (0xFFFFFFB7 : Word) &&& 0x0000007C = 0x00000034 ∧
    decode 0x00000034 = .ok (.lui 0 0) ∧ decode 0x00000037 = .ok (.lui 0 0) ∧ canonical 0x00000037 = true := by decide

theorem witness_OpcodeMapDecidesTheInstruction : decode 0x00812500 = .ok (.lw 10 2 8) ∧
    (Instr.lw 10 2 8).row.hits 0x00812500 = true ∧ (Instr.slt 10 11 12).row.hitsCanonical 0x40C5A533 = true := by decide

theorem witness_DecodeOfEncodeIsTheInstruction : (Instr.lui 31 0xFFFFF).wellFormed = true ∧
    (Instr.storeWidth7 31 31 0xFFF).wellFormed = true ∧ (Instr.and 31 31 31).wellFormed = true := by decide

theorem witness_UnknownWordGivesATypedError : (testState 0x0000007F (testCall 2)).word.extractLsb' 2 5 ≠ 0x00 ∧
    (testState 0x0000007F (testCall 2)).word.extractLsb' 2 5 ≠ 0x08 ∧
    (testState 0x0000007F (testCall 2)).word.extractLsb' 2 5 ≠ 0x0C ∧
    (testState 0x0000007F (testCall 2)).word.extractLsb' 2 5 ≠ 0x0D ∧
    ∃ t, step (testState 0x0000007F (testCall 2)) = .next t ∧ t.decoded = .err .unknownFormat :=
  ⟨by decide, by decide, by decide, by decide, _, rfl, rfl⟩

theorem witness_ResultsDependOnTheInputsAlone : (testState 0 (testCall 0)).word = State.reset.word ∧
    (testState 0 (testCall 0)).encIn = State.reset.encIn ∧ testState 0 (testCall 0) ≠ State.reset ∧
    step (testState 0 (testCall 0)) = .next State.reset ∧ step State.reset = .next State.reset :=
  ⟨by decide, by decide, by decide, test_step_from_other_results, test_reset_is_settled⟩

theorem witness_RepeatedEvaluationIsStable : step (testState 0 (testCall 0)) = .next State.reset :=
  test_step_from_other_results

theorem witness_ErrorCodesAreNumbered : ErrorKind.invalidArgumentCount.code = ErrorKind.invalidArgumentCount.code := by
  decide

set_option maxRecDepth 8000 in
theorem witness_RegisterNameLookup : defaultTables.wf = true ∧ registerName defaultTables 31 = .ok ['t', '6'] ∧
    registerName defaultTables 32 = .err .outOfRange := by decide

set_option maxRecDepth 8000 in
theorem witness_FunctionNameLookup : defaultTables.wf = true ∧ functionName defaultTables 7 = .ok ['a', 'n', 'd'] ∧
    functionName defaultTables 8 = .err .outOfRange := by decide

set_option maxRecDepth 8000 in
theorem witness_WidthTextLookup : defaultTables.wf = true ∧ widthText defaultTables 0 = .ok ['b', 'y', 't', 'e'] ∧
    widthText defaultTables 2 = .ok ['w', 'o', 'r', 'd'] ∧ (widthText defaultTables 5).isOk = true ∧
    widthText defaultTables 3 = .err .outOfRange ∧ widthText defaultTables 6 = .err .outOfRange := by decide

set_option maxRecDepth 8000 in
theorem witness_DecodeEntryFailsAsDecodeChecked : defaultTables.wf = true ∧
    decodeEntry defaultTables 0x0000B083 = .err .outOfRange ∧
    decodeEntry defaultTables 0x00001537 = .ok (.constant 1 10, .constant 1 ['a', '0']) := by decide

theorem witness_SuffixesGiveTheirWidths : ['w', 'u'] ∉ [['b'], ['h'], ['w'], ['b', 'u'], ['h', 'u']] ∧
    ([] : Text) ∉ [['b'], ['h'], ['w'], ['b', 'u'], ['h', 'u']] ∧ widthFromSuffix ['h', 'u'] = .ok 5 := by decide

set_option maxRecDepth 8000 in
theorem witness_FunctionMnemonicIsAnExactMatch : defaultTables.wf = true ∧ ['A', 'd', 'd'] ∉ defaultTables.funcName ∧
    defaultTables.funcName[(7 : Code3).toNat]? = some ['a', 'n', 'd'] := by decide

set_option maxRecDepth 8000 in
theorem witness_RegisterTextIsMatchedToItsDelimiter : defaultTables.wf = true ∧
    (∀ c ∈ ['t', '6'], isDelimiter c = false) ∧ isDelimiter ')' = true ∧
    defaultTables.regName[(31 : RegIx).toNat]? = some ['t', '6'] ∧ ['q', '9'] ∉ defaultTables.regName ∧
    (∀ c ∈ ['q', '9'], isDelimiter c = false) :=
  ⟨by decide, by simp [isDelimiter, isSpace], by decide, by decide, by decide, by simp [isDelimiter, isSpace]⟩

set_option maxRecDepth 8000 in
theorem witness_MemoryOperandIsSplitAtItsParentheses : '(' ∉ ['8'] ∧ ')' ∉ ['s', 'p'] ∧ number ['q'] = none ∧
    number ['-', '4'] = some (-4) ∧ '(' ∉ ['-', '4'] ∧ '(' ∉ ['q'] := by decide

set_option maxRecDepth 8000 in
theorem witness_MnemonicsAreSortedInOrder : defaultTables.wf = true ∧
    functionFromMnemonic defaultTables ['s', 'l', 't', 'u'] = .ok 3 ∧ ['s', 'l', 't', 'u'] ≠ ['l', 'u', 'i'] ∧
    widthFromSuffix ['b', 'u'] = .ok 4 ∧ ['m', 'u', 'l'] ∉ defaultTables.funcName ∧ ['m', 'u', 'l'] ∉ otherMnemonics := by
  decide

theorem witness_NumbersAreReadInTheirBase : digitsFrom 10 decDigit 1 ['2'] = some 12 ∧ decDigit '9' = some 9 ∧
    digitsFrom 16 hexDigit 1 ['F'] = some 31 ∧ hexDigit 'a' = some 10 ∧ decDigit 'x' = none ∧ hexDigit 'g' = none ∧
    (['1', '9'] : Text).head? ≠ some '-' ∧ (['1', '9'] : Text).take 2 ≠ ['0', 'x'] ∧ number ['1', '9'] = some 19 := by decide

set_option maxRecDepth 8000 in
theorem witness_TextErrorsComeInOrder :
    tokens ['m', 'u', 'l', ' ', 'a', '0'] = ['m', 'u', 'l'] :: [['a', '0']] ∧
    sortMnemonic defaultTables ['m', 'u', 'l'] = .err .unknownFunctionName ∧
    tokens ['l', 'w', ' ', 'q', '9'] = ['l', 'w'] :: [['q', '9']] ∧
    sortMnemonic defaultTables ['l', 'w'] = .ok (.load 2) ∧ 1 + 1 ≠ (Mnemonic.load 2).tokenCount ∧
    tokens ['l', 'w', ' ', 'q', '9', ',', '8'] = ['l', 'w'] :: [['q', '9'], ['8']] ∧
    2 + 1 = (Mnemonic.load 2).tokenCount ∧ [['q', '9'], ['8']].head? = some ['q', '9'] ∧
    registerFromName defaultTables ['q', '9'] = .err .unknownRegisterName := by decide

-- a readable first operand, then one that is not, and all readable
set_option maxRecDepth 8000 in
theorem witness_TextErrorsComeInOrder_later_operands :
    tokens "sw a0,8".toList = "sw".toList :: ["a0".toList, ['8']] ∧
    sortMnemonic defaultTables "sw".toList = .ok (.store 2) ∧ sortMnemonic defaultTables "lw".toList = .ok (.load 2) ∧
    sortMnemonic defaultTables "add".toList = .ok (.math 0) ∧ sortMnemonic defaultTables "lui".toList = .ok .constant ∧
    registerFromName defaultTables "a0".toList = .ok 10 ∧ parseMemOperand defaultTables ['8'] = .err .malformedOperand ∧
    parseMemOperand defaultTables "-4(sp)".toList = .ok (-4, 2) ∧
    number ['q'] = none ∧ number ['1'] = some 1 := by decide

set_option maxRecDepth 8000 in
theorem witness_AcceptedTextDecodesToWhatItNames :
    encodeText defaultTables ['l', 'w', ' ', 'a', '0', ',', '-', '4', '(', 's', 'p', ')'] = .ok 0xFFC12503 ∧
    encodeText defaultTables ['s', 'w', ' ', 'a', '0', ',', '8', '(', 's', 'p', ')'] = .ok 0x00A12423 ∧
    encodeText defaultTables ['a', 'd', 'd', ' ', 'a', '0', ',', 'a', '1', ',', 'a', '2'] = .ok 0x00C58533 ∧
    encodeText defaultTables ['l', 'u', 'i', ' ', 'a', '0', ',', '1'] = .ok 0x00001537 := by decide

theorem witness_BinaryTextGroupsTheBits : ['0', '0', '1', '1'] ∈ binaryGroups 0x00000003 := by decide

set_option maxRecDepth 8000 in
theorem witness_TextErrorsAriseInTheTextLayerAlone : Dec.classify 0x0000007F = .err .unknownFormat ∧
    Dec.decodeChecked 0x0000B083 = .err .outOfRange ∧ encodeText defaultTables "lw a0,8".toList = .err .malformedOperand ∧
    registerFromName defaultTables ['q'] = .err .unknownRegisterName ∧
    parseMemOperand defaultTables "8(q)".toList = .err .unknownRegisterName ∧
    widthFromSuffix ['q'] = .err .unknownFunctionName ∧ sortMnemonic defaultTables ['q'] = .err .unknownFunctionName ∧
    encodeText defaultTables [] = .err Config.emptyLineError.kind := ⟨by decide, by decide, by decide, by decide, by decide,
      by decide, by decide, rfl⟩

/-- Accepted lines of a Load and of a Store, for the clauses over encodeText of LoadWordsFollowTheirRules and
StoreWordsFollowTheirRules. -/
theorem witness_accepted_load_and_store_lines : Dec.classify 0xFFC12503 = .ok .load ∧ Dec.classify 0x00A12423 = .ok .store ∧
    ∃ l s, encodeText defaultTables l = .ok 0xFFC12503 ∧ encodeText defaultTables s = .ok 0x00A12423 :=
  ⟨by decide, by decide, _, _, witness_AcceptedTextDecodesToWhatItNames.1, witness_AcceptedTextDecodesToWhatItNames.2.1⟩
end

section
/-! The step in closed form, and what follows from it about the inputs (R8, R25, R193). -/

namespace Sys2Proof.Machine

/-- The state after one evaluation, written as a function of DEC's word and ENC's inputs alone (R8): the word reaches
every result but ENC's word, and ENC's inputs reach nothing else (R193). -/
def evaluation (word : Word) (call : EncCall) : State where
  word := word
  encIn := call
  dec := decPorts word
  encWord := Enc.word call
  decoded := Dec.decode word
  checked := Dec.decodeChecked word
  recoded := (Dec.decode word).map Enc.encode

@[simp] theorem evaluation_word (w : Word) (c : EncCall) : (evaluation w c).word = w := rfl
@[simp] theorem evaluation_encIn (w : Word) (c : EncCall) : (evaluation w c).encIn = c := rfl
@[simp] theorem evaluation_dec (w : Word) (c : EncCall) : (evaluation w c).dec = decPorts w := rfl
@[simp] theorem evaluation_encWord (w : Word) (c : EncCall) : (evaluation w c).encWord = Enc.word c := rfl
@[simp] theorem evaluation_decoded (w : Word) (c : EncCall) : (evaluation w c).decoded = Dec.decode w := rfl
@[simp] theorem evaluation_checked (w : Word) (c : EncCall) : (evaluation w c).checked = Dec.decodeChecked w := rfl
@[simp] theorem evaluation_recoded (w : Word) (c : EncCall) : (evaluation w c).recoded = (Dec.decode w).map Enc.encode := rfl

/-- Delivering the breakdown the word spells completes the evaluation. -/
theorem deliver_settlePorts_eq_evaluation {s : State} {b : Breakdown} (h : Dec.decode s.word = .ok b) :
    s.settlePorts.deliver b = evaluation s.word s.encIn := by
  simp [State.deliver, evaluation, Dec.decodeChecked, h, Result.bind, Result.map]

/-- Delivering the error of a word that spells no breakdown completes the evaluation. -/
theorem deliverError_settlePorts_eq_evaluation {s : State} {e : ErrorKind} (h : Dec.decode s.word = .err e) :
    s.settlePorts.deliverError e = evaluation s.word s.encIn := by
  simp [State.deliverError, evaluation, Dec.decodeChecked, h, Result.bind, Result.map]

/-- A step is the evaluation of the inputs present, from every state. -/
theorem step_eq_evaluation (s : State) : step s = .next (evaluation s.word s.encIn) := by
  obtain ⟨b, hdecode, hstep⟩ | ⟨e, hdecode, hstep⟩ := step_cases s
  · rw [hstep, deliver_settlePorts_eq_evaluation hdecode]
  · rw [hstep, deliverError_settlePorts_eq_evaluation hdecode]

/-- The next state of a step, in terms of the inputs. -/
theorem step_eq_next_iff {s t : State} : step s = .next t ↔ t = evaluation s.word s.encIn := by
  rw [step_eq_evaluation, Host.Outcome.next.injEq, eq_comm]

/-- Settles O40: the step is the evaluation of the inputs, in which each unit's results mention its own input only. -/
theorem resultsDependOnTheInputsAlone : Obligations.ResultsDependOnTheInputsAlone := by
  refine ⟨fun s s' hword hcall => ?_, fun s s' t t' ht ht' => ?_⟩
  · rw [step_eq_evaluation, step_eq_evaluation, hword, hcall]
  · obtain rfl := step_eq_next_iff.mp ht
    obtain rfl := step_eq_next_iff.mp ht'
    exact ⟨fun hword => by simp [hword], fun hcall => by simp [hcall]⟩

end Sys2Proof.Machine
end

section
/-! DEC's masked shifts are slices of the word (R31, R38, R60, R65). -/

namespace Sys2Proof

/-- A shift and a mask of `n` ones, as every extractor formula has them (R60 to R75), cut a slice out of the word. -/
theorem fieldAt_eq_extractLsb' {n : Nat} {mask : Word} (hmask : mask = (BitVec.allOnes n).setWidth 32)
    (w : Word) (shift : Nat) : fieldAt n w shift mask = w.extractLsb' shift n := by
  subst hmask
  refine BitVec.eq_of_getLsbD_eq fun i hi => ?_
  rw [fieldAt_getLsbD, BitVec.getLsbD_extractLsb']
  by_cases hword : i < 32
  · simp [hi, hword]
  · have hbeyond : w.getLsbD (shift + i) = false := w.getLsbD_of_ge _ (by omega)
    simp [hbeyond]

/-- R31: the opcode is word[6:2]. -/
theorem Dec.extractOpcode_eq_slice (w : Word) : Dec.extractOpcode w = w.extractLsb' 2 5 :=
  fieldAt_eq_extractLsb' rfl w 2

/-- R38: the Load offset is word[31:20]. -/
theorem Dec.getLoadOffset_eq_slice (w : Word) : Dec.getLoadOffset w = w.extractLsb' 20 12 :=
  fieldAt_eq_extractLsb' rfl w 20

/-- R38 read as a number: nothing stands above word[31:20], so the offset is the word without its low twenty bits. -/
theorem Dec.getLoadOffset_toNat (w : Word) : (Dec.getLoadOffset w).toNat = w.toNat / 2 ^ 20 := by
  rw [Dec.getLoadOffset_eq_slice, BitVec.extractLsb'_toNat, Nat.shiftRight_eq_div_pow, Nat.mod_eq_of_lt]
  have hw := w.isLt
  omega

/-- Bit 31 of the word is the top bit of the Load offset, where it counts 2048 and is no sign (R38). -/
theorem Dec.getLoadOffset_msb (w : Word) : (Dec.getLoadOffset w).msb = w.getLsbD 31 := by
  simp [Dec.getLoadOffset_eq_slice, BitVec.msb_eq_getLsbD_last]

/-- Settles O1: the formula is the definition, and it cuts the slice word[6:2], on which the other clauses rest. -/
theorem opcodeIsBitsSixToTwo : Obligations.OpcodeIsBitsSixToTwo := by
  refine ⟨fun _ => rfl, Dec.extractOpcode_eq_slice, fun w v hslice => ?_, by decide, by decide,
    fun w hones => ?_, fun w => ?_, by decide⟩
  · rw [Dec.extractOpcode_eq_slice, Dec.extractOpcode_eq_slice, hslice]
  · rw [Dec.extractOpcode_eq_slice, hones]
  · exact Nat.le_of_lt_succ (Dec.extractOpcode w).isLt

/-- Settles O4: the formula is the definition, and it cuts the slice word[31:20]; a set top bit of a 12-bit number is
worth 2048. -/
theorem loadOffsetIsUnsigned : Obligations.LoadOffsetIsUnsigned := by
  refine ⟨fun w => ⟨rfl, Dec.getLoadOffset_eq_slice w, Dec.getLoadOffset_toNat w, ?_⟩, fun w htop => ?_,
    by decide, by decide, by decide⟩
  · exact Nat.le_of_lt_succ (Dec.getLoadOffset w).isLt
  · exact BitVec.toNat_ge_of_msb_true (by rw [Dec.getLoadOffset_msb, htop])

end Sys2Proof
end

section
/-! What classify answers, by the opcode slice word[6:2] (R61). -/

namespace Sys2Proof

/-- The opcode a format is known by (R61). -/
def Format.opcode : Format → BitVec 5
  | .load => 0x00
  | .store => 0x08
  | .math => 0x0C
  | .constant => 0x0D

/-- An opcode is no format's when it is none of the four of R61. -/
theorem Format.forall_opcode_ne_iff {op : BitVec 5} :
    (∀ f : Format, op ≠ f.opcode) ↔ op ≠ 0x00 ∧ op ≠ 0x08 ∧ op ≠ 0x0C ∧ op ≠ 0x0D := by
  constructor
  · intro h
    exact ⟨h .load, h .store, h .math, h .constant⟩
  · rintro ⟨hload, hstore, hmath, hconstant⟩ (_ | _ | _ | _)
    exacts [hload, hstore, hmath, hconstant]

/-- classify answers a format exactly on the words with that format's opcode. -/
theorem Dec.classify_eq_ok_iff {w : Word} {f : Format} :
    Dec.classify w = .ok f ↔ w.extractLsb' 2 5 = f.opcode := by
  rw [← Dec.extractOpcode_eq_slice]
  obtain ⟨hfmt, hop⟩ | ⟨hfmt, hop⟩ | ⟨hfmt, hop⟩ | ⟨hfmt, hop⟩ | ⟨hfmt, hop⟩ := Dec.classify_cases w
  iterate 4
    · rw [hfmt, hop]
      cases f <;> decide
  · exact iff_of_false (by simp [hfmt]) (Format.forall_opcode_ne_iff.mpr hop f)

/-- The one error of classify is UnknownFormat, on the words whose opcode is no format's. -/
theorem Dec.classify_eq_err_iff {w : Word} {e : ErrorKind} :
    Dec.classify w = .err e ↔ e = .unknownFormat ∧ ∀ f : Format, w.extractLsb' 2 5 ≠ f.opcode := by
  simp only [ne_eq, ← Dec.classify_eq_ok_iff]
  obtain ⟨hfmt, -⟩ | ⟨hfmt, -⟩ | ⟨hfmt, -⟩ | ⟨hfmt, -⟩ | ⟨hfmt, -⟩ := Dec.classify_cases w
  iterate 4
    · simp [hfmt]
  · simp [hfmt, eq_comm]

/-- classify reads the slice word[6:2] and no other bit. -/
theorem Dec.classify_eq_of_opcode_eq {w v : Word} (hslice : w.extractLsb' 2 5 = v.extractLsb' 2 5) :
    Dec.classify w = Dec.classify v := by
  simp only [Dec.classify, Dec.extractOpcode_eq_slice, hslice]

/-- Settles O2: each answer of classify is decided by the opcode slice; the count runs through the 32 opcodes. -/
theorem classifyFollowsTheOpcode : Obligations.ClassifyFollowsTheOpcode := by
  refine ⟨fun _ => Dec.classify_eq_ok_iff, fun _ => Dec.classify_eq_ok_iff, fun _ => Dec.classify_eq_ok_iff,
    fun _ => Dec.classify_eq_ok_iff, fun w => ?_, fun w e herr => (Dec.classify_eq_err_iff.mp herr).1,
    fun w v => Dec.classify_eq_of_opcode_eq, by decide, by decide, by decide, by decide, by decide⟩
  rw [Dec.classify_eq_err_iff, Format.forall_opcode_ne_iff]
  exact and_iff_right rfl

end Sys2Proof
end

section
/-! The Store offset as its two halves (R69, R39). -/

namespace Sys2Proof

/-- A shift and a mask of `n` ones, before narrowing: the slice with zeros above it. -/
theorem shiftRight_and_ones_eq_setWidth_extractLsb' {n : Nat} {mask : Word}
    (hmask : mask = (BitVec.allOnes n).setWidth 32) (w : Word) (shift : Nat) :
    (w >>> shift) &&& mask = (w.extractLsb' shift n).setWidth 32 := by
  subst hmask
  refine BitVec.eq_of_getLsbD_eq fun i hi => ?_
  simp [hi, Bool.and_comm]

/-- Seven bits shifted over five and joined by `or` (R69) are the two written one after the other. -/
theorem setWidth_shiftLeft_or_eq_append (hi : BitVec 7) (lo : BitVec 5) :
    ((hi.setWidth 32 <<< 5) ||| lo.setWidth 32).setWidth 12 = hi ++ lo := by
  refine BitVec.eq_of_getLsbD_eq fun i hbound => ?_
  rw [BitVec.getLsbD_append]
  by_cases hlow : i < 5
  · simp [hlow, hbound]
  · have habove : lo.getLsbD i = false := lo.getLsbD_of_ge i (by omega)
    simp [hlow, hbound, habove]

/-- R69: the offset is word[31:25] with word[11:7] below it. -/
theorem Dec.getStoreOffset_eq_append (w : Word) :
    Dec.getStoreOffset w = w.extractLsb' 25 7 ++ w.extractLsb' 7 5 := by
  rw [Dec.getStoreOffset, shiftRight_and_ones_eq_setWidth_extractLsb' (n := 7) (mask := 0x7F#32) rfl,
    shiftRight_and_ones_eq_setWidth_extractLsb' (n := 5) (mask := 0x1F#32) rfl, setWidth_shiftLeft_or_eq_append]

/-- R69 as a number: the high half counts in units of 32. -/
theorem Dec.getStoreOffset_toNat (w : Word) :
    (Dec.getStoreOffset w).toNat = (w.extractLsb' 25 7).toNat * 32 + (w.extractLsb' 7 5).toNat := by
  rw [Dec.getStoreOffset_eq_append, BitVec.toNat_append,
    ← Nat.shiftLeft_add_eq_or_of_lt (w.extractLsb' 7 5).isLt, Nat.shiftLeft_eq]

/-- Settles O5: the sum form of the joined halves, in which an empty half counts nothing. -/
theorem storeOffsetJoinsItsHalves : Obligations.StoreOffsetJoinsItsHalves := by
  refine ⟨Dec.getStoreOffset_eq_append, Dec.getStoreOffset_toNat, fun w => ?_, fun w hlow => ?_, fun w hhigh => ?_,
    by decide, by decide, by decide, by decide⟩
  · exact Nat.le_of_lt_succ (Dec.getStoreOffset w).isLt
  · have hzero : (w.extractLsb' 7 5).toNat = 0 := congrArg BitVec.toNat hlow
    rw [Dec.getStoreOffset_toNat, hzero, Nat.add_zero, Nat.mul_mod_left]
  · have hzero : (w.extractLsb' 25 7).toNat = 0 := congrArg BitVec.toNat hhigh
    rw [Dec.getStoreOffset_toNat, hzero, Nat.zero_mul, Nat.zero_add]
    exact Nat.le_of_lt_succ (w.extractLsb' 7 5).isLt

end Sys2Proof
end

section
/-! The other extractors as slices of the word (R62 to R64, R66 to R68, R70 to R75), and decode by format (R76). -/

namespace Sys2Proof

theorem Dec.getLoadWidth_eq_slice (w : Word) : Dec.getLoadWidth w = w.extractLsb' 12 3 :=
  fieldAt_eq_extractLsb' rfl w 12
theorem Dec.getLoadDest_eq_slice (w : Word) : Dec.getLoadDest w = w.extractLsb' 7 5 :=
  fieldAt_eq_extractLsb' rfl w 7
theorem Dec.getLoadBase_eq_slice (w : Word) : Dec.getLoadBase w = w.extractLsb' 15 5 :=
  fieldAt_eq_extractLsb' rfl w 15
theorem Dec.getStoreWidth_eq_slice (w : Word) : Dec.getStoreWidth w = w.extractLsb' 12 3 :=
  fieldAt_eq_extractLsb' rfl w 12
theorem Dec.getStoreBase_eq_slice (w : Word) : Dec.getStoreBase w = w.extractLsb' 15 5 :=
  fieldAt_eq_extractLsb' rfl w 15
theorem Dec.getStoreSource_eq_slice (w : Word) : Dec.getStoreSource w = w.extractLsb' 20 5 :=
  fieldAt_eq_extractLsb' rfl w 20
theorem Dec.getMathFunction_eq_slice (w : Word) : Dec.getMathFunction w = w.extractLsb' 12 3 :=
  fieldAt_eq_extractLsb' rfl w 12
theorem Dec.getMathOperandA_eq_slice (w : Word) : Dec.getMathOperandA w = w.extractLsb' 15 5 :=
  fieldAt_eq_extractLsb' rfl w 15
theorem Dec.getMathOperandB_eq_slice (w : Word) : Dec.getMathOperandB w = w.extractLsb' 20 5 :=
  fieldAt_eq_extractLsb' rfl w 20
theorem Dec.getMathDest_eq_slice (w : Word) : Dec.getMathDest w = w.extractLsb' 7 5 :=
  fieldAt_eq_extractLsb' rfl w 7
theorem Dec.getConstantDest_eq_slice (w : Word) : Dec.getConstantDest w = w.extractLsb' 7 5 :=
  fieldAt_eq_extractLsb' rfl w 7
/-- The Constant value is shifted without a mask, and word[31:12] is all that is left (R74). -/
theorem Dec.getConstantValue_eq_slice (w : Word) : Dec.getConstantValue w = w.extractLsb' 12 20 :=
  rfl

/-- A Load word decodes to the Load of its fields. -/
theorem Dec.decode_of_load {w : Word} (h : Dec.classify w = .ok .load) : Dec.decode w =
    .ok (.load (w.extractLsb' 12 3) (w.extractLsb' 7 5) (w.extractLsb' 15 5) (w.extractLsb' 20 12)) := by
  rw [Dec.decode, h, Dec.getLoadWidth_eq_slice, Dec.getLoadDest_eq_slice, Dec.getLoadBase_eq_slice,
    Dec.getLoadOffset_eq_slice]

/-- A Store word decodes to the Store of its fields. -/
theorem Dec.decode_of_store {w : Word} (h : Dec.classify w = .ok .store) : Dec.decode w =
    .ok (.store (w.extractLsb' 12 3) (w.extractLsb' 15 5) (w.extractLsb' 20 5)
      (w.extractLsb' 25 7 ++ w.extractLsb' 7 5)) := by
  rw [Dec.decode, h, Dec.getStoreWidth_eq_slice, Dec.getStoreBase_eq_slice, Dec.getStoreSource_eq_slice,
    Dec.getStoreOffset_eq_append]

/-- A Math word decodes to the Math of its fields. -/
theorem Dec.decode_of_math {w : Word} (h : Dec.classify w = .ok .math) : Dec.decode w =
    .ok (.math (w.extractLsb' 12 3) (w.extractLsb' 15 5) (w.extractLsb' 20 5) (w.extractLsb' 7 5)) := by
  rw [Dec.decode, h, Dec.getMathFunction_eq_slice, Dec.getMathOperandA_eq_slice, Dec.getMathOperandB_eq_slice,
    Dec.getMathDest_eq_slice]

/-- A Constant word decodes to the Constant of its fields. -/
theorem Dec.decode_of_constant {w : Word} (h : Dec.classify w = .ok .constant) : Dec.decode w =
    .ok (.constant (w.extractLsb' 12 20) (w.extractLsb' 7 5)) := by
  rw [Dec.decode, h, Dec.getConstantValue_eq_slice, Dec.getConstantDest_eq_slice]

/-- Extraction never fails, so decode's errors are classify's. -/
theorem Dec.decode_eq_err_iff {w : Word} {e : ErrorKind} : Dec.decode w = .err e ↔ Dec.classify w = .err e := by
  cases hclass : Dec.classify w with
  | ok f => cases f <;> simp [Dec.decode, hclass]
  | err e' => simp [Dec.decode, hclass]

/-- Settles O7: one equation of decode per format, and its errors from classify, whose one error is UnknownFormat. -/
theorem decodeIsOneClassificationAndItsFields : Obligations.DecodeIsOneClassificationAndItsFields := by
  refine ⟨fun _ => Dec.decode_of_load, fun _ => Dec.decode_of_store, fun _ => Dec.decode_of_math,
    fun _ => Dec.decode_of_constant, fun _ _ => Dec.decode_eq_err_iff, fun w e herr => ?_,
    by decide, by decide, by decide, by decide⟩
  exact (Dec.classify_eq_err_iff.mp (Dec.decode_eq_err_iff.mp herr)).1

end Sys2Proof
end

section
/-! ENC's packing functions as concatenations of their fields (R90, R91, R94, R39): a masked input is a field with zeros
above it, and fields shifted to their places and joined by `or` are the fields written one after the other. -/

namespace Sys2Proof

/-- A mask of `n` ones keeps the low `n` bits of an input, with zeros above them. -/
theorem and_ones_eq_setWidth_setWidth {n : Nat} {mask : BitVec 32} (hmask : mask = (BitVec.allOnes n).setWidth 32)
    (x : BitVec 32) : x &&& mask = (x.setWidth n).setWidth 32 := by
  subst hmask
  refine BitVec.eq_of_getLsbD_eq fun i hi => ?_
  simp [hi, Bool.and_comm]

/-- The mask of a 3-bit field (R90, R91). -/
theorem and_0x7_eq_setWidth_setWidth (x : BitVec 32) : x &&& 0x7 = (x.setWidth 3).setWidth 32 :=
  and_ones_eq_setWidth_setWidth (n := 3) rfl x

/-- The mask of a 5-bit field (R90, R91, R94). -/
theorem and_0x1F_eq_setWidth_setWidth (x : BitVec 32) : x &&& 0x1F = (x.setWidth 5).setWidth 32 :=
  and_ones_eq_setWidth_setWidth (n := 5) rfl x

/-- Two fields shifted to neighbouring places and joined by `or` are their concatenation at the lower place. -/
theorem shiftLeft_or_shiftLeft_eq_append_shiftLeft {m n high low : Nat} (hi : BitVec m) (lo : BitVec n)
    (hplaces : high = low + n) :
    (hi.setWidth 32 <<< high) ||| (lo.setWidth 32 <<< low) = (hi ++ lo).setWidth 32 <<< low := by
  subst hplaces
  refine BitVec.eq_of_getLsbD_eq fun i hbound => ?_
  by_cases hbelow : i < low
  · have hbelow' : i < low + n := by omega
    simp [hbelow, hbelow']
  · by_cases hlo : i - low < n
    · have hlo' : i < low + n := by omega
      simp [hbelow, hlo, hlo', hbound, BitVec.getLsbD_append]
    · have hhi : ¬ i < low + n := by omega
      have habove : lo.getLsbD (i - low) = false := lo.getLsbD_of_ge _ (by omega)
      simp [hbelow, hlo, hhi, habove, hbound, BitVec.getLsbD_append, Nat.sub_sub]

/-- The seven low bits that name a format, joined by `or` below 25 bits of fields, stand after them. -/
theorem shiftLeft_or_eq_append (fields : BitVec 25) (low7 : BitVec 7) :
    (fields.setWidth 32 <<< 7) ||| low7.setWidth 32 = fields ++ low7 := by
  simpa using shiftLeft_or_shiftLeft_eq_append_shiftLeft (low := 0) fields low7 rfl

/-- R90: the Load word is its fields in order. -/
theorem Enc.encodeLoad_eq_append (width dest base offset : BitVec 32) : Enc.encodeLoad width dest base offset =
    offset.setWidth 12 ++ base.setWidth 5 ++ width.setWidth 3 ++ dest.setWidth 5 ++ 0b0000011#7 := by
  simp only [Enc.encodeLoad, and_0x7_eq_setWidth_setWidth, and_0x1F_eq_setWidth_setWidth,
    and_ones_eq_setWidth_setWidth (n := 12) (mask := 0xFFF) rfl, shiftLeft_or_shiftLeft_eq_append_shiftLeft]
  exact shiftLeft_or_eq_append _ 0b0000011#7

/-- R91, R39: the Store word is its fields in order, the offset in two parts. -/
theorem Enc.encodeStore_eq_append (width base source offset : BitVec 32) : Enc.encodeStore width base source offset =
    offset.extractLsb' 5 7 ++ source.setWidth 5 ++ base.setWidth 5 ++ width.setWidth 3 ++ offset.setWidth 5 ++
      0b0100011#7 := by
  simp only [Enc.encodeStore, and_0x7_eq_setWidth_setWidth, and_0x1F_eq_setWidth_setWidth,
    shiftRight_and_ones_eq_setWidth_extractLsb' (n := 7) (mask := 0x7F) rfl, shiftLeft_or_shiftLeft_eq_append_shiftLeft]
  exact shiftLeft_or_eq_append _ 0b0100011#7

/-- R94, R40: the Constant word is its fields in order; the twenty value bits fill word[31:12]. -/
theorem Enc.encodeConstant_eq_append (value dest : BitVec 32) : Enc.encodeConstant value dest =
    value.setWidth 20 ++ dest.setWidth 5 ++ 0b0110111#7 := by
  simp only [Enc.encodeConstant, and_0x1F_eq_setWidth_setWidth,
    and_ones_eq_setWidth_setWidth (n := 20) (mask := 0xFFFFF) rfl, shiftLeft_or_shiftLeft_eq_append_shiftLeft]
  exact shiftLeft_or_eq_append _ 0b0110111#7

/-- R91's remark: the two right shifts differ only in the bits shifted in at the top, which a mask of `n` ones below them
does not let through. -/
theorem sshiftRight_and_ones_eq_shiftRight_and_ones {n shift : Nat} {mask : BitVec 32}
    (hmask : mask = (BitVec.allOnes n).setWidth 32) (hbelow : shift + n ≤ 32) (x : BitVec 32) :
    (x.sshiftRight shift) &&& mask = (x >>> shift) &&& mask := by
  subst hmask
  refine BitVec.eq_of_getLsbD_eq fun i hi => ?_
  by_cases hmasked : i < n
  · have hinput : shift + i < 32 := by omega
    have hinside : ¬ 32 ≤ i := by omega
    simp [BitVec.getLsbD_sshiftRight, hinput, hinside]
  · simp [hmasked]

/-- Settles O11: the packing equation, and the model's words for the written cases. -/
theorem encodeLoadPacksItsFields : Obligations.EncodeLoadPacksItsFields :=
  ⟨Enc.encodeLoad_eq_append, by decide, by decide, by decide, by decide, by decide, by decide, by decide⟩

/-- Settles O12: the packing equation, the two shifts under their mask, and the model's words for the written cases. -/
theorem encodeStorePacksItsFields : Obligations.EncodeStorePacksItsFields :=
  ⟨Enc.encodeStore_eq_append, sshiftRight_and_ones_eq_shiftRight_and_ones (n := 7) rfl (by decide),
    by decide, by decide, by decide, by decide, by decide, by decide, by decide, by decide⟩

/-- Settles O14: the packing equation, and the model's words for the written cases. -/
theorem encodeConstantPacksItsFields : Obligations.EncodeConstantPacksItsFields :=
  ⟨Enc.encodeConstant_eq_append, by decide, by decide, by decide, by decide, by decide, by decide⟩

end Sys2Proof
end

section
/-! Mnemonics matched against the function table (R155, R157): in a table of eight distinct names, an entry is found at
its own place only, and a function code can name every place. -/

namespace Sys2Proof

/-- In a list without duplicates, the index found for a value is the only place that holds it. -/
theorem idxOf?_eq_some_iff_getElem?_of_nodup {α : Type} [BEq α] [LawfulBEq α] {l : List α} (hnodup : l.Nodup) {a : α}
    {i : Nat} : l.idxOf? a = some i ↔ l[i]? = some a := by
  rw [List.idxOf?_eq_some_iff, List.getElem?_eq_some_iff]
  refine exists_congr fun hi => and_iff_left_of_imp fun hfound j hj heq => ?_
  have hij : j = i := hnodup.getElem_inj_iff.mp (heq.trans hfound.symm)
  exact hj.ne hij

/-- R155's constraints on the function names that make them a table: eight of them, all distinct. -/
theorem NameTables.funcName_length_and_nodup_of_wf {T : NameTables} (hwf : T.wf = true) :
    T.funcName.length = 8 ∧ T.funcName.Nodup := by
  simp only [NameTables.wf, Bool.and_eq_true, decide_eq_true_eq] at hwf
  obtain ⟨⟨⟨⟨⟨-, hlength⟩, hnodup⟩, -⟩, -⟩, -⟩ := hwf
  exact ⟨hlength, hnodup⟩

end Sys2Proof

namespace Sys2Proof.Machine

/-- In a table of eight names, the function code of a text is the index of its first match. -/
theorem functionFromMnemonic_eq_ok_iff {T : NameTables} (hlength : T.funcName.length = 8) {s : Text} {f : Code3} :
    functionFromMnemonic T s = .ok f ↔ T.funcName.idxOf? s = some f.toNat := by
  have htake : T.funcName.take 8 = T.funcName := List.take_of_length_le hlength.le
  rw [functionFromMnemonic, htake]
  cases hfound : T.funcName.idxOf? s with
  | none => simp
  | some i =>
    obtain ⟨hi, -⟩ := List.idxOf?_eq_some_iff.mp hfound
    have hcode : i < 8 := hi.trans_eq hlength
    simp [← BitVec.toNat_inj, Nat.mod_eq_of_lt hcode]

/-- A text that is none of the names is UnknownFunctionName, whatever the table. -/
theorem functionFromMnemonic_of_not_mem {T : NameTables} {s : Text} (hnone : s ∉ T.funcName) :
    functionFromMnemonic T s = .err .unknownFunctionName := by
  have hnotFound : (T.funcName.take 8).idxOf? s = none :=
    List.idxOf?_eq_none_iff.mpr fun hmem => hnone (List.mem_of_mem_take hmem)
  rw [functionFromMnemonic, hnotFound]

/-- Settles O51: the first match is the only one among distinct names, and its place is the function code. -/
theorem functionMnemonicIsAnExactMatch : Obligations.FunctionMnemonicIsAnExactMatch := by
  intro T s hwf
  obtain ⟨hlength, hnodup⟩ := NameTables.funcName_length_and_nodup_of_wf hwf
  exact ⟨fun _ => (functionFromMnemonic_eq_ok_iff hlength).trans (idxOf?_eq_some_iff_getElem?_of_nodup hnodup),
    functionFromMnemonic_of_not_mem⟩

end Sys2Proof.Machine
end

section
/-! Packed words read back (R98, R100, R42): each slice of a word laid out field by field is the field that stands
there, so every packing function's word classifies and decodes to its masked inputs. -/

namespace Sys2Proof

/-- R92: the Math word is its fields in order, `funct7` from the whole function input. -/
theorem Enc.encodeMath_eq_append (function a b dest : BitVec 32) : Enc.encodeMath function a b dest =
    Enc.mathFunct7 function ++ b.setWidth 5 ++ a.setWidth 5 ++ function.setWidth 3 ++ dest.setWidth 5 ++
      0b0110011#7 := by
  simp only [Enc.encodeMath, and_0x7_eq_setWidth_setWidth, and_0x1F_eq_setWidth_setWidth,
    shiftLeft_or_shiftLeft_eq_append_shiftLeft]
  exact shiftLeft_or_eq_append _ 0b0110011#7

/-- The slices of a word in the Load layout (R34). -/
theorem slices_of_load_fields (offset : Offset) (base : RegIx) (width : Code3) (dest : RegIx) (low7 : BitVec 7) :
    (offset ++ base ++ width ++ dest ++ low7).extractLsb' 20 12 = offset ∧
    (offset ++ base ++ width ++ dest ++ low7).extractLsb' 15 5 = base ∧
    (offset ++ base ++ width ++ dest ++ low7).extractLsb' 12 3 = width ∧
    (offset ++ base ++ width ++ dest ++ low7).extractLsb' 7 5 = dest := by
  simp (disch := decide) only [BitVec.extractLsb'_append_eq_of_le, BitVec.extractLsb'_append_eq_of_add_le,
    Nat.reduceSub, BitVec.extractLsb'_eq_self, and_self]

/-- The slices of a word in the layout Store and Math share (R35, R36): seven bits, two registers, a code, five bits. -/
theorem slices_of_store_fields (top7 : BitVec 7) (rs2 rs1 : RegIx) (code : Code3) (five : BitVec 5) (low7 : BitVec 7) :
    (top7 ++ rs2 ++ rs1 ++ code ++ five ++ low7).extractLsb' 25 7 = top7 ∧
    (top7 ++ rs2 ++ rs1 ++ code ++ five ++ low7).extractLsb' 20 5 = rs2 ∧
    (top7 ++ rs2 ++ rs1 ++ code ++ five ++ low7).extractLsb' 15 5 = rs1 ∧
    (top7 ++ rs2 ++ rs1 ++ code ++ five ++ low7).extractLsb' 12 3 = code ∧
    (top7 ++ rs2 ++ rs1 ++ code ++ five ++ low7).extractLsb' 7 5 = five := by
  simp (disch := decide) only [BitVec.extractLsb'_append_eq_of_le, BitVec.extractLsb'_append_eq_of_add_le,
    Nat.reduceSub, BitVec.extractLsb'_eq_self, and_self]

/-- The slices of a word in the Constant layout (R37). -/
theorem slices_of_constant_fields (value : Value) (dest : RegIx) (low7 : BitVec 7) :
    (value ++ dest ++ low7).extractLsb' 12 20 = value ∧
    (value ++ dest ++ low7).extractLsb' 7 5 = dest := by
  simp (disch := decide) only [BitVec.extractLsb'_append_eq_of_le, BitVec.extractLsb'_append_eq_of_add_le,
    Nat.reduceSub, BitVec.extractLsb'_eq_self, and_self]

/-- The low twelve bits of an input are its two parts on either side of bit 5 (R39). -/
theorem extractLsb'_append_setWidth_eq_setWidth (x : BitVec 32) :
    x.extractLsb' 5 7 ++ x.setWidth 5 = x.setWidth 12 := by
  rw [BitVec.setWidth_eq_extractLsb' (by decide), BitVec.setWidth_eq_extractLsb' (by decide),
    BitVec.extractLsb'_append_extractLsb'_eq_extractLsb' (by decide)]

/-- A slice of a slice is a slice of the word. -/
theorem extractLsb'_extractLsb' (w : Word) {start len start' len' : Nat} (h : start' + len' ≤ len) :
    (w.extractLsb' start len).extractLsb' start' len' = w.extractLsb' (start + start') len' := by
  refine BitVec.eq_of_getLsbD_eq fun i hi => ?_
  have hin : start' + i < len := by omega
  simp [hi, hin, Nat.add_assoc]

/-- The low seven bits of ENC's words: the format's opcode over 11 (R34 to R37). -/
theorem Enc.encodeLoad_low7 (width dest base offset : BitVec 32) :
    (Enc.encodeLoad width dest base offset).extractLsb' 0 7 = Format.load.opcode ++ 0b11#2 := by
  rw [Enc.encodeLoad_eq_append]
  exact BitVec.extractLsb'_append_eq_right

theorem Enc.encodeStore_low7 (width base source offset : BitVec 32) :
    (Enc.encodeStore width base source offset).extractLsb' 0 7 = Format.store.opcode ++ 0b11#2 := by
  rw [Enc.encodeStore_eq_append]
  exact BitVec.extractLsb'_append_eq_right

theorem Enc.encodeMath_low7 (function a b dest : BitVec 32) :
    (Enc.encodeMath function a b dest).extractLsb' 0 7 = Format.math.opcode ++ 0b11#2 := by
  rw [Enc.encodeMath_eq_append]
  exact BitVec.extractLsb'_append_eq_right

theorem Enc.encodeConstant_low7 (value dest : BitVec 32) :
    (Enc.encodeConstant value dest).extractLsb' 0 7 = Format.constant.opcode ++ 0b11#2 := by
  rw [Enc.encodeConstant_eq_append]
  exact BitVec.extractLsb'_append_eq_right

/-- A word with a format's low seven bits is of that format. -/
theorem Dec.classify_of_low7 {w : Word} {f : Format} (h : w.extractLsb' 0 7 = f.opcode ++ 0b11#2) :
    Dec.classify w = .ok f := by
  have hslice : (w.extractLsb' 0 7).extractLsb' 2 5 = w.extractLsb' 2 5 := extractLsb'_extractLsb' w (by decide)
  rw [Dec.classify_eq_ok_iff, ← hslice, h, BitVec.extractLsb'_append_eq_left]

/-- The word of a packing function decodes to that format's breakdown, each input cut to its field (R98). -/
theorem Dec.decode_encodeLoad (width dest base offset : BitVec 32) :
    Dec.decode (Enc.encodeLoad width dest base offset) =
      .ok (.load (width.setWidth 3) (dest.setWidth 5) (base.setWidth 5) (offset.setWidth 12)) := by
  rw [Dec.decode_of_load (Dec.classify_of_low7 (Enc.encodeLoad_low7 ..)), Enc.encodeLoad_eq_append]
  simp [slices_of_load_fields]

theorem Dec.decode_encodeStore (width base source offset : BitVec 32) :
    Dec.decode (Enc.encodeStore width base source offset) =
      .ok (.store (width.setWidth 3) (base.setWidth 5) (source.setWidth 5) (offset.setWidth 12)) := by
  rw [Dec.decode_of_store (Dec.classify_of_low7 (Enc.encodeStore_low7 ..)), Enc.encodeStore_eq_append]
  simp [slices_of_store_fields, extractLsb'_append_setWidth_eq_setWidth]

theorem Dec.decode_encodeMath (function a b dest : BitVec 32) : Dec.decode (Enc.encodeMath function a b dest) =
    .ok (.math (function.setWidth 3) (a.setWidth 5) (b.setWidth 5) (dest.setWidth 5)) := by
  rw [Dec.decode_of_math (Dec.classify_of_low7 (Enc.encodeMath_low7 ..)), Enc.encodeMath_eq_append]
  simp [slices_of_store_fields]

theorem Dec.decode_encodeConstant (value dest : BitVec 32) : Dec.decode (Enc.encodeConstant value dest) =
    .ok (.constant (value.setWidth 20) (dest.setWidth 5)) := by
  rw [Dec.decode_of_constant (Dec.classify_of_low7 (Enc.encodeConstant_low7 ..)), Enc.encodeConstant_eq_append]
  simp [slices_of_constant_fields]

/-- R98: a breakdown's fields are already cut to their widths, so decode gives the breakdown back. -/
@[simp] theorem Dec.decode_encode (b : Breakdown) : Dec.decode (Enc.encode b) = .ok b := by
  cases b with
  | load => simp [Enc.encode, Dec.decode_encodeLoad]
  | store => simp [Enc.encode, Dec.decode_encodeStore]
  | math => simp [Enc.encode, Dec.decode_encodeMath]
  | constant => simp [Enc.encode, Dec.decode_encodeConstant]

/-- Settles O18: one equation per packing function, and the breakdown itself when its fields are its inputs. -/
theorem decodeAfterEncodeMasksTheFields : Obligations.DecodeAfterEncodeMasksTheFields :=
  ⟨Dec.decode_encodeLoad, Dec.decode_encodeStore, Dec.decode_encodeMath, Dec.decode_encodeConstant, Dec.decode_encode⟩

/-- A function input from 8 up is none of 0, 1 and 5 (D5). -/
theorem Enc.mathFunct7_of_eight_le {function : BitVec 32} (h : 8 ≤ function.toNat) :
    Enc.mathFunct7 function = 0x20 := by
  refine if_neg ?_
  rintro (rfl | rfl | rfl) <;> exact absurd h (by decide)

/-- Settles O13: the packing equation, in which `funct7` is the definition's own test of the whole input. -/
theorem encodeMathPacksItsFields : Obligations.EncodeMathPacksItsFields :=
  ⟨Enc.encodeMath_eq_append, fun _ => rfl, fun _ => Enc.mathFunct7_of_eight_le, by decide, by decide, by decide⟩

/-! ### The offset and the value as numbers (R100, R42) -/

theorem Dec.getLoadOffset_encodeLoad (w d b o : BitVec 32) :
    Dec.getLoadOffset (Enc.encodeLoad w d b o) = o.setWidth 12 := by
  rw [Dec.getLoadOffset_eq_slice, Enc.encodeLoad_eq_append]
  simp [slices_of_load_fields]

theorem Dec.getStoreOffset_encodeStore (w b s o : BitVec 32) :
    Dec.getStoreOffset (Enc.encodeStore w b s o) = o.setWidth 12 := by
  rw [Dec.getStoreOffset_eq_append, Enc.encodeStore_eq_append]
  simp [slices_of_store_fields, extractLsb'_append_setWidth_eq_setWidth]

theorem Dec.getConstantValue_encodeConstant (v d : BitVec 32) :
    Dec.getConstantValue (Enc.encodeConstant v d) = v.setWidth 20 := by
  rw [Dec.getConstantValue_eq_slice, Enc.encodeConstant_eq_append]
  simp [slices_of_constant_fields]

/-- Settles O21: the two parts of the offset come back joined, and no other field holds any of it. -/
theorem storeOffsetSurvivesTheSplit : Obligations.StoreOffsetSurvivesTheSplit := by
  refine ⟨fun w b s o hsmall => ?_, fun w b s o => ?_, fun w b s o => ?_⟩
  · rw [Dec.getStoreOffset_encodeStore, BitVec.toNat_setWidth, Nat.mod_eq_of_lt (Nat.lt_succ_of_le hsmall)]
  · rw [Dec.getStoreOffset_encodeStore, and_ones_eq_setWidth_setWidth (n := 12) (mask := 0xFFF) rfl,
      BitVec.setWidth_setWidth_of_le _ (by decide), BitVec.setWidth_eq]
  · rw [Dec.getStoreWidth_eq_slice, Dec.getStoreBase_eq_slice, Dec.getStoreSource_eq_slice, Enc.encodeStore_eq_append]
    simp [slices_of_store_fields]

/-- R42: an integer on a 32-bit input, cut to a narrower field, is the integer modulo the field's size. -/
theorem Machine.toNat_setWidth_inputOfInt {n : Nat} (hn : n ≤ 32) (x : Int) :
    (((Machine.inputOfInt x).setWidth n).toNat : Int) = x % 2 ^ n := by
  have hdvd : (2 ^ n : Int) ∣ 2 ^ 32 := pow_dvd_pow 2 hn
  have hnonneg : 0 ≤ x % (2 ^ 32 : Int) := Int.emod_nonneg _ (by decide)
  rw [Machine.inputOfInt, BitVec.toNat_setWidth, BitVec.toNat_ofInt, Int.natCast_mod]
  simp only [Nat.cast_pow, Nat.cast_ofNat]
  rw [Int.toNat_of_nonneg hnonneg, Int.emod_emod_of_dvd x hdvd]

/-- Settles O22: the field takes the integer's residue, which for -4 is 4092. -/
theorem signedInputsComeBackUnsigned : Obligations.SignedInputsComeBackUnsigned := by
  refine ⟨fun x w d b => ?_, fun x w b s => ?_, fun x d => ?_, fun w d b => ?_⟩
  · rw [Dec.getLoadOffset_encodeLoad, Machine.toNat_setWidth_inputOfInt (by decide)]
    rfl
  · rw [Dec.getStoreOffset_encodeStore, Machine.toNat_setWidth_inputOfInt (by decide)]
    rfl
  · rw [Dec.getConstantValue_encodeConstant, Machine.toNat_setWidth_inputOfInt (by decide)]
    rfl
  · rw [← Dec.getLoadOffset_eq_slice, Dec.getLoadOffset_encodeLoad]
    decide

end Sys2Proof
end

section
/-! The canonical word (R52, R99): a word with its top seven bits and its low two bits chosen, and every bit between
them kept. ENC's word for a breakdown is such a word, and so is `canon` of an accepted word. -/

namespace Sys2Proof

/-- The word with `top` in [31:25] and 11 in [1:0], its bits [24:2] kept. -/
def withTop (top : BitVec 7) (w : Word) : Word := top ++ w.extractLsb' 2 23 ++ 0b11#2

/-- Every word is its top seven bits, its middle and its low two bits. -/
theorem eq_top_append_middle_append_low (w : Word) :
    w = (w.extractLsb' 25 7 ++ w.extractLsb' 2 23 ++ w.extractLsb' 0 2 : Word) := by
  rw [BitVec.extractLsb'_append_extractLsb'_eq_extractLsb' (by decide),
    BitVec.extractLsb'_append_extractLsb'_eq_extractLsb' (by decide)]
  exact BitVec.extractLsb'_eq_self.symm

@[simp] theorem withTop_top (top : BitVec 7) (w : Word) : (withTop top w).extractLsb' 25 7 = top := by
  show (top ++ w.extractLsb' 2 23 ++ 0b11#2).extractLsb' 25 7 = top
  rw [BitVec.extractLsb'_append_eq_of_le (by decide)]
  exact BitVec.extractLsb'_append_eq_left

@[simp] theorem withTop_low (top : BitVec 7) (w : Word) : (withTop top w).extractLsb' 0 2 = 0b11 :=
  BitVec.extractLsb'_append_eq_right

theorem withTop_middle (top : BitVec 7) (w : Word) {start len : Nat} (hlow : 2 ≤ start) (hhigh : start + len ≤ 25) :
    (withTop top w).extractLsb' start len = w.extractLsb' start len := by
  show (top ++ w.extractLsb' 2 23 ++ 0b11#2).extractLsb' start len = _
  rw [BitVec.extractLsb'_append_eq_of_le hlow, BitVec.extractLsb'_append_eq_of_add_le (by omega),
    extractLsb'_extractLsb' w (by omega), Nat.add_sub_cancel' hlow]

/-- A word whose low two bits are 11 is the one with its own top bits. -/
theorem withTop_self {w : Word} (hlow : w.extractLsb' 0 2 = 0b11) : withTop (w.extractLsb' 25 7) w = w := by
  conv_rhs => rw [eq_top_append_middle_append_low w, hlow]
  rfl

/-- Such a word in the layout of Store and Math (R35, R36). -/
theorem withTop_eq_store_fields (top : BitVec 7) (w : Word) : withTop top w =
    top ++ w.extractLsb' 20 5 ++ w.extractLsb' 15 5 ++ w.extractLsb' 12 3 ++ w.extractLsb' 7 5 ++
      (w.extractLsb' 2 5 ++ 0b11#2) := by
  have hfields (v : Word) : v = v.extractLsb' 25 7 ++ v.extractLsb' 20 5 ++ v.extractLsb' 15 5 ++
      v.extractLsb' 12 3 ++ v.extractLsb' 7 5 ++ (v.extractLsb' 2 5 ++ v.extractLsb' 0 2) := by
    simp only [BitVec.extractLsb'_append_extractLsb'_eq_extractLsb']
    exact BitVec.extractLsb'_eq_self.symm
  rw [hfields (withTop top w), withTop_top, withTop_low]
  simp (disch := decide) only [withTop_middle]
  rfl

/-- Two words with the same top, middle and low slices are one word. -/
theorem eq_of_slices_eq {w v : Word} (htop : w.extractLsb' 25 7 = v.extractLsb' 25 7)
    (hmiddle : w.extractLsb' 2 23 = v.extractLsb' 2 23) (hlow : w.extractLsb' 0 2 = v.extractLsb' 0 2) : w = v := by
  rw [eq_top_append_middle_append_low w, eq_top_append_middle_append_low v, htop, hmiddle, hlow]

/-- Setting the low two bits keeps the top ones. -/
theorem or_three_eq_withTop (w : Word) : w ||| 0x3 = withTop (w.extractLsb' 25 7) w := by
  have hones (x : BitVec 2) : x ||| 0b11 = 0b11 := BitVec.or_allOnes
  apply eq_of_slices_eq
  · simp [BitVec.extractLsb'_or]
  · simp [BitVec.extractLsb'_or, withTop_middle]
  · simpa [BitVec.extractLsb'_or] using hones _

/-- R99's formula for Math: the middle bits kept, the low two set, the top seven replaced. -/
theorem and_or_shiftLeft_eq_withTop (top : BitVec 7) (w : Word) :
    (w &&& 0x01FFFFFC) ||| 0x3 ||| (top.setWidth 32 <<< 25) = withTop top w := by
  have hshifted : top.setWidth 32 <<< 25 = (top ++ 0#25 : Word) := by
    simpa using shiftLeft_or_shiftLeft_eq_append_shiftLeft (low := 0) top 0#25 rfl
  have htop : (top ++ 0#25 : Word).extractLsb' 25 7 = top := BitVec.extractLsb'_append_eq_left
  have hbelow {start len : Nat} (h : start + len ≤ 25) : (top ++ 0#25 : Word).extractLsb' start len = 0#len := by
    rw [BitVec.extractLsb'_append_eq_of_add_le h, BitVec.extractLsb'_zero]
  have hones (x : BitVec 23) : x &&& 0x7FFFFF = x := BitVec.and_allOnes
  rw [hshifted]
  apply eq_of_slices_eq
  · simp [BitVec.extractLsb'_or, BitVec.extractLsb'_and, htop]
  · simpa [BitVec.extractLsb'_or, BitVec.extractLsb'_and, hbelow, withTop_middle] using hones _
  · simp [BitVec.extractLsb'_or, BitVec.extractLsb'_and, hbelow]

/-! ### canon and canonical -/

/-- R93 on a 3-bit code: `funct7` is 0x00 for the codes 0, 1 and 5. -/
theorem Enc.mathFunct7_setWidth (code : Code3) :
    Enc.mathFunct7 (code.setWidth 32) = if code = 0 ∨ code = 1 ∨ code = 5 then 0x00 else 0x20 := by
  revert code
  decide

/-- A word is of some format when its opcode is one of the four. -/
theorem Dec.exists_classify_iff {w : Word} : (∃ f, Dec.classify w = .ok f) ↔ w.extractLsb' 2 5 = 0x00 ∨
    w.extractLsb' 2 5 = 0x08 ∨ w.extractLsb' 2 5 = 0x0C ∨ w.extractLsb' 2 5 = 0x0D := by
  simp only [Dec.classify_eq_ok_iff]
  constructor
  · rintro ⟨_ | _ | _ | _, h⟩ <;> simp [h, Format.opcode]
  · rintro (h | h | h | h)
    exacts [⟨.load, h⟩, ⟨.store, h⟩, ⟨.math, h⟩, ⟨.constant, h⟩]

/-- R52 in terms of the formats and of R93's `funct7`. -/
theorem canonical_iff {w : Word} : canonical w = true ↔
    w.extractLsb' 0 2 = 0b11 ∧ (∃ f, Dec.classify w = .ok f) ∧
      (Dec.classify w = .ok .math → w.extractLsb' 25 7 = Enc.mathFunct7 ((w.extractLsb' 12 3).setWidth 32)) := by
  rw [Dec.exists_classify_iff, Dec.classify_eq_ok_iff, Enc.mathFunct7_setWidth]
  simp only [canonical, Bool.and_eq_true, Bool.or_eq_true, decide_eq_true_eq, ne_eq, Format.opcode, or_assoc, and_assoc,
    ← imp_iff_not_or]

/-- R99 outside Math: only the low two bits are set. -/
theorem canon_of_ne_math {w : Word} {f : Format} (h : Dec.classify w = .ok f) (hf : f ≠ .math) :
    canon w = w ||| 0x3 := by
  rw [canon, h]
  cases f with
  | math => exact absurd rfl hf
  | _ => rfl

/-- R99 for Math. -/
theorem canon_of_math {w : Word} (h : Dec.classify w = .ok .math) : canon w = (w &&& 0x01FFFFFC) ||| 0x3 |||
    ((Enc.mathFunct7 ((w.extractLsb' 12 3).setWidth 32)).setWidth 32 <<< 25) := by
  rw [canon, h, fieldAt_eq_extractLsb' (n := 3) (mask := 0x7) rfl]

/-- The canonical word is the word with its low two bits set and its top bits its own, in Math R93's `funct7`. -/
theorem canon_eq_withTop {w : Word} {f : Format} (h : Dec.classify w = .ok f) : canon w =
    withTop (if f = .math then Enc.mathFunct7 ((w.extractLsb' 12 3).setWidth 32) else w.extractLsb' 25 7) w := by
  by_cases hf : f = .math
  · subst hf
    rw [if_pos rfl, canon_of_math h, and_or_shiftLeft_eq_withTop]
  · rw [if_neg hf, canon_of_ne_math h hf, or_three_eq_withTop]

/-- A canonical word is its own canonical word. -/
theorem canon_of_canonical {w : Word} (h : canonical w = true) : canon w = w := by
  obtain ⟨hlow, ⟨f, hclass⟩, hmath⟩ := canonical_iff.mp h
  rw [canon_eq_withTop hclass]
  by_cases hf : f = .math
  · subst hf
    rw [if_pos rfl, ← hmath hclass, withTop_self hlow]
  · rw [if_neg hf, withTop_self hlow]

/-! ### ENC's words -/

/-- A breakdown's word, field by field (R95). -/
theorem Enc.encode_load (width : Code3) (dest base : RegIx) (offset : Offset) :
    Enc.encode (.load width dest base offset) = offset ++ base ++ width ++ dest ++ 0b0000011#7 := by
  simp [Enc.encode, Enc.encodeLoad_eq_append, BitVec.setWidth_setWidth_of_le]

theorem Enc.encode_store (width : Code3) (base source : RegIx) (offset : Offset) :
    Enc.encode (.store width base source offset) =
      offset.extractLsb' 5 7 ++ source ++ base ++ width ++ offset.extractLsb' 0 5 ++ 0b0100011#7 := by
  simp [Enc.encode, Enc.encodeStore_eq_append, BitVec.extractLsb'_setWidth_of_le, BitVec.setWidth_eq_extractLsb']

theorem Enc.encode_math (function : Code3) (a b dest : RegIx) : Enc.encode (.math function a b dest) =
    Enc.mathFunct7 (function.setWidth 32) ++ b ++ a ++ function ++ dest ++ 0b0110011#7 := by
  simp [Enc.encode, Enc.encodeMath_eq_append, BitVec.setWidth_setWidth_of_le]

theorem Enc.encode_constant (value : Value) (dest : RegIx) :
    Enc.encode (.constant value dest) = value ++ dest ++ 0b0110111#7 := by
  simp [Enc.encode, Enc.encodeConstant_eq_append, BitVec.setWidth_setWidth_of_le]

/-- What a decoded breakdown can be: its word's format, and the slices of that format's fields (R76). -/
theorem Dec.decode_eq_ok_cases {w : Word} {b : Breakdown} (h : Dec.decode w = .ok b) :
    (Dec.classify w = .ok .load ∧
      b = .load (w.extractLsb' 12 3) (w.extractLsb' 7 5) (w.extractLsb' 15 5) (w.extractLsb' 20 12)) ∨
    (Dec.classify w = .ok .store ∧ b = .store (w.extractLsb' 12 3) (w.extractLsb' 15 5) (w.extractLsb' 20 5)
      (w.extractLsb' 25 7 ++ w.extractLsb' 7 5)) ∨
    (Dec.classify w = .ok .math ∧
      b = .math (w.extractLsb' 12 3) (w.extractLsb' 15 5) (w.extractLsb' 20 5) (w.extractLsb' 7 5)) ∨
    (Dec.classify w = .ok .constant ∧ b = .constant (w.extractLsb' 12 20) (w.extractLsb' 7 5)) := by
  cases hclass : Dec.classify w with
  | err e => simp [Dec.decode_eq_err_iff.mpr hclass] at h
  | ok f =>
    cases f with
    | load => exact .inl ⟨rfl, Result.ok.inj (h.symm.trans (Dec.decode_of_load hclass))⟩
    | store => exact .inr (.inl ⟨rfl, Result.ok.inj (h.symm.trans (Dec.decode_of_store hclass))⟩)
    | math => exact .inr (.inr (.inl ⟨rfl, Result.ok.inj (h.symm.trans (Dec.decode_of_math hclass))⟩))
    | constant => exact .inr (.inr (.inr ⟨rfl, Result.ok.inj (h.symm.trans (Dec.decode_of_constant hclass))⟩))

/-- R99: encode after decode is canon. -/
theorem Enc.encode_eq_canon_of_decode {w : Word} {b : Breakdown} (h : Dec.decode w = .ok b) :
    Enc.encode b = canon w := by
  obtain ⟨hclass, rfl⟩ | ⟨hclass, rfl⟩ | ⟨hclass, rfl⟩ | ⟨hclass, rfl⟩ := Dec.decode_eq_ok_cases h <;>
    rw [canon_eq_withTop hclass, withTop_eq_store_fields, Dec.classify_eq_ok_iff.mp hclass]
  case inl =>
    have hoffset : w.extractLsb' 25 7 ++ w.extractLsb' 20 5 = w.extractLsb' 20 12 :=
      BitVec.extractLsb'_append_extractLsb'_eq_extractLsb' rfl
    rw [Enc.encode_load, if_neg (by decide), hoffset]
    rfl
  case inr.inl =>
    rw [Enc.encode_store, if_neg (by decide), BitVec.extractLsb'_append_eq_left, BitVec.extractLsb'_append_eq_right]
    rfl
  case inr.inr.inl =>
    rw [Enc.encode_math, if_pos rfl]
    rfl
  case inr.inr.inr =>
    have hvalue : w.extractLsb' 25 7 ++ w.extractLsb' 20 5 ++ w.extractLsb' 15 5 ++ w.extractLsb' 12 3 =
        w.extractLsb' 12 20 := by
      simp only [BitVec.extractLsb'_append_extractLsb'_eq_extractLsb']
    rw [Enc.encode_constant, if_neg (by decide), hvalue]
    rfl

/-! ### ENC's output port (R97, R102) -/

/-- The format of a tag is the one with that tag number. -/
theorem Format.ofCode_eq_iff {tag : BitVec 2} {f : Format} : Format.ofCode tag = f ↔ tag = f.code := by
  revert tag
  cases f <;> decide

theorem Enc.word_of_load {c : EncCall} (h : Format.ofCode c.fmt = .load) :
    Enc.word c = Enc.encodeLoad c.f3 c.rd c.rs1 c.imm := by rw [Enc.word, h]
theorem Enc.word_of_store {c : EncCall} (h : Format.ofCode c.fmt = .store) :
    Enc.word c = Enc.encodeStore c.f3 c.rs1 c.rs2 c.imm := by rw [Enc.word, h]
theorem Enc.word_of_math {c : EncCall} (h : Format.ofCode c.fmt = .math) :
    Enc.word c = Enc.encodeMath c.f3 c.rs1 c.rs2 c.rd := by rw [Enc.word, h]
theorem Enc.word_of_constant {c : EncCall} (h : Format.ofCode c.fmt = .constant) :
    Enc.word c = Enc.encodeConstant c.imm c.rd := by rw [Enc.word, h]

/-- ENC's word has the low seven bits of the format its tag names (R97). -/
theorem Enc.word_low7 (c : EncCall) : (Enc.word c).extractLsb' 0 7 = (Format.ofCode c.fmt).opcode ++ 0b11#2 := by
  cases hfmt : Format.ofCode c.fmt with
  | load => rw [Enc.word_of_load hfmt, Enc.encodeLoad_low7]
  | store => rw [Enc.word_of_store hfmt, Enc.encodeStore_low7]
  | math => rw [Enc.word_of_math hfmt, Enc.encodeMath_low7]
  | constant => rw [Enc.word_of_constant hfmt, Enc.encodeConstant_low7]

theorem Enc.classify_word (c : EncCall) : Dec.classify (Enc.word c) = .ok (Format.ofCode c.fmt) :=
  Dec.classify_of_low7 (Enc.word_low7 c)

/-- A Math word carries R93's `funct7` of its whole function input. -/
theorem Enc.encodeMath_funct7 (function a b dest : BitVec 32) :
    (Enc.encodeMath function a b dest).extractLsb' 25 7 = Enc.mathFunct7 function := by
  rw [Enc.encodeMath_eq_append]
  simp [slices_of_store_fields]

theorem Enc.encodeMath_function (function a b dest : BitVec 32) :
    (Enc.encodeMath function a b dest).extractLsb' 12 3 = function.setWidth 3 := by
  rw [Enc.encodeMath_eq_append]
  simp [slices_of_store_fields]

/-- ENC's word is canonical unless a Math function input does not fit its field (R97, log 8). -/
theorem Enc.canonical_word {c : EncCall} (h : Format.ofCode c.fmt = .math → c.f3.toNat < 8) :
    canonical (Enc.word c) = true := by
  refine canonical_iff.mpr ⟨?_, ⟨_, Enc.classify_word c⟩, fun hclass => ?_⟩
  · have hslice : ((Enc.word c).extractLsb' 0 7).extractLsb' 0 2 = (Enc.word c).extractLsb' 0 2 :=
      extractLsb'_extractLsb' _ (by decide)
    rw [← hslice, Enc.word_low7]
    exact BitVec.extractLsb'_append_eq_right
  · have hfmt : Format.ofCode c.fmt = .math := Result.ok.inj ((Enc.classify_word c).symm.trans hclass)
    have hfits : (c.f3.setWidth 3).setWidth 32 = c.f3 := by
      have hsmall := h hfmt
      refine BitVec.eq_of_toNat_eq ?_
      simp only [BitVec.toNat_setWidth]
      omega
    rw [Enc.word_of_math hfmt, Enc.encodeMath_funct7, Enc.encodeMath_function, hfits]

/-- encode is ENC's output for the call that spells the breakdown (R95, R102). -/
theorem Enc.word_call (b : Breakdown) : Enc.word b.call = Enc.encode b := by cases b <;> rfl

/-- A field on a 32-bit input is within its width. -/
theorem toNat_setWidth_lt {n : Nat} (x : BitVec n) (hn : n ≤ 32 := by decide) : (x.setWidth 32).toNat < 2 ^ n := by
  rw [BitVec.toNat_setWidth_of_le hn]
  exact x.isLt

/-- A breakdown's fields are within their widths (R98). -/
@[simp] theorem Breakdown.call_inRange (b : Breakdown) : b.call.inRange = true := by
  cases b with
  | load w d r o =>
    have hfmt : Format.ofCode (Breakdown.load w d r o).call.fmt = .load := rfl
    simp only [EncCall.inRange, hfmt, Bool.and_eq_true, decide_eq_true_eq]
    exact ⟨⟨⟨toNat_setWidth_lt w, toNat_setWidth_lt d⟩, toNat_setWidth_lt r⟩, toNat_setWidth_lt o⟩
  | store w r s o =>
    have hfmt : Format.ofCode (Breakdown.store w r s o).call.fmt = .store := rfl
    simp only [EncCall.inRange, hfmt, Bool.and_eq_true, decide_eq_true_eq]
    exact ⟨⟨⟨toNat_setWidth_lt w, toNat_setWidth_lt r⟩, toNat_setWidth_lt s⟩, toNat_setWidth_lt o⟩
  | math f a b d =>
    have hfmt : Format.ofCode (Breakdown.math f a b d).call.fmt = .math := rfl
    simp only [EncCall.inRange, hfmt, Bool.and_eq_true, decide_eq_true_eq]
    exact ⟨⟨⟨toNat_setWidth_lt f, toNat_setWidth_lt d⟩, toNat_setWidth_lt a⟩, toNat_setWidth_lt b⟩
  | constant v d =>
    have hfmt : Format.ofCode (Breakdown.constant v d).call.fmt = .constant := rfl
    simp only [EncCall.inRange, hfmt, Bool.and_eq_true, decide_eq_true_eq]
    exact ⟨toNat_setWidth_lt d, toNat_setWidth_lt v⟩

/-- A Math call in range has a function code for its function input. -/
theorem EncCall.f3_lt_of_inRange {c : EncCall} (h : c.inRange = true) (hfmt : Format.ofCode c.fmt = .math) :
    c.f3.toNat < 8 := by
  simp only [EncCall.inRange, hfmt, Bool.and_eq_true, decide_eq_true_eq, and_assoc] at h
  exact h.1

/-- The word encode gives is canonical. -/
theorem canonical_encode (b : Breakdown) : canonical (Enc.encode b) = true := by
  rw [← Enc.word_call]
  exact Enc.canonical_word (EncCall.f3_lt_of_inRange b.call_inRange)

/-- A word of a format decodes to a breakdown. -/
theorem Dec.exists_decode_of_classify {w : Word} {f : Format} (h : Dec.classify w = .ok f) :
    ∃ b, Dec.decode w = .ok b := by
  cases f with
  | load => exact ⟨_, Dec.decode_of_load h⟩
  | store => exact ⟨_, Dec.decode_of_store h⟩
  | math => exact ⟨_, Dec.decode_of_math h⟩
  | constant => exact ⟨_, Dec.decode_of_constant h⟩

/-- Two canonical words of one breakdown are one word: each is the breakdown's encoding. -/
theorem eq_encode_of_canonical {w : Word} {b : Breakdown} (hcanon : canonical w = true) (h : Dec.decode w = .ok b) :
    w = Enc.encode b := by
  rw [Enc.encode_eq_canon_of_decode h, canon_of_canonical hcanon]

/-- Settles O19: encode after decode is canon, bit by bit; encode gives canonical words only, and on them canon is the
identity. -/
theorem encodeAfterDecodeIsCanon : Obligations.EncodeAfterDecodeIsCanon := by
  refine ⟨fun w b => Enc.encode_eq_canon_of_decode, fun w hop => ?_, fun w hop => ?_,
    fun w b hb => ⟨fun h => ?_, fun h => ?_⟩, fun w v b hw hv hwb hvb => ?_, by decide, by decide⟩
  · obtain h | h | h := hop
    · exact canon_of_ne_math (f := .load) (Dec.classify_eq_ok_iff.mpr h) (by decide)
    · exact canon_of_ne_math (f := .store) (Dec.classify_eq_ok_iff.mpr h) (by decide)
    · exact canon_of_ne_math (f := .constant) (Dec.classify_eq_ok_iff.mpr h) (by decide)
  · exact canon_of_math (Dec.classify_eq_ok_iff.mpr hop)
  · exact h ▸ canonical_encode b
  · exact (eq_encode_of_canonical h hb).symm
  · rw [eq_encode_of_canonical hw hwb, eq_encode_of_canonical hv hvb]

/-- Settles O20: canon of an accepted word is the encoding of its breakdown, which is canonical and decodes to it. -/
theorem canonIsIdempotentAndInvisible : Obligations.CanonIsIdempotentAndInvisible := by
  intro w f hclass
  obtain ⟨b, hb⟩ := Dec.exists_decode_of_classify hclass
  have hcanonical : canonical (Enc.encode b) = true := canonical_encode b
  rw [← Enc.encode_eq_canon_of_decode hb]
  exact ⟨hcanonical, canon_of_canonical hcanonical, by rw [Dec.decode_encode, hb]⟩

/-- An instruction is the instruction of its breakdown. -/
@[simp] theorem Instr.breakdown_instr (i : Instr) : i.breakdown.instr = i := by cases i <;> rfl

/-- R98 for instructions. -/
@[simp] theorem decode_encode (i : Instr) : decode (encode i) = .ok i := by
  simp [decode, encode]

/-- Settles O36: decode of encode at the breakdown, and the instruction from its breakdown. -/
theorem decodeOfEncodeIsTheInstruction : Obligations.DecodeOfEncodeIsTheInstruction :=
  fun i _ => ⟨decode_encode i, canonical_encode i.breakdown⟩

/-- Refutes O23: encode_math(8,1,2,3) carries function code 0 with `funct7` 0x20 (log 8). -/
theorem not_everyEncodedWordIsCanonical : ¬ Obligations.EveryEncodedWordIsCanonical := by
  intro h
  exact absurd (h { fmt := 2, f3 := 8, rd := 3, rs1 := 1, rs2 := 2, imm := 0 }) (by decide)

/-- Settles O24: the low seven bits and `funct7` of every ENC word; a canonical word is the encoding of its breakdown,
whose call is in range. -/
theorem encodedWordsAreCanonicalInRange : Obligations.EncodedWordsAreCanonicalInRange := by
  refine ⟨Enc.classify_word, fun c => ?_, fun c hfmt => ?_,
    fun c h => Enc.canonical_word fun hmath => h (Format.ofCode_eq_iff.mp hmath), fun w hcanon => ?_⟩
  · rw [Enc.word_low7]
    refine ⟨fun h => ?_, fun h => ?_, fun h => ?_, fun h => ?_⟩ <;> rw [h] <;> rfl
  · rw [Enc.word_of_math (Format.ofCode_eq_iff.mpr hfmt), Enc.encodeMath_funct7]
    exact ite_eq_or_eq _ _ _
  · obtain ⟨-, ⟨f, hclass⟩, -⟩ := canonical_iff.mp hcanon
    obtain ⟨b, hb⟩ := Dec.exists_decode_of_classify hclass
    exact ⟨b.call, b.call_inRange, by rw [Enc.word_call, ← eq_encode_of_canonical hcanon hb]⟩

end Sys2Proof
end

section
/-! DEC's remaining rules: the width check (R81), the extractors as slices (R62 to R75), and the bits decode does not
read (R79). -/

namespace Sys2Proof

/-! ### The width check -/

/-- A width code is refused exactly when it is 3, 6 or 7 (R81, C2). -/
theorem widthCodeValid_eq_false_iff {code : Code3} : widthCodeValid code = false ↔ code = 3 ∨ code = 6 ∨ code = 7 := by
  revert code
  decide

theorem widthCodeValid_iff {code : Code3} :
    widthCodeValid code = true ↔ code = 0 ∨ code = 1 ∨ code = 2 ∨ code = 4 ∨ code = 5 := by
  simp [widthCodeValid, or_assoc]

theorem widthCodeValid_iff_ne {code : Code3} : widthCodeValid code = true ↔ code ≠ 3 ∧ code ≠ 6 ∧ code ≠ 7 := by
  revert code
  decide

theorem Dec.widthValid_eq (w : Word) : Dec.widthValid w = widthCodeValid (w.extractLsb' 12 3) := by
  rw [Dec.widthValid, fieldAt_eq_extractLsb' (n := 3) (mask := 0x7) rfl]

theorem Dec.decodeChecked_of_ok {w : Word} {b : Breakdown} (h : Dec.decode w = .ok b) :
    Dec.decodeChecked w = Dec.checkWidth b := by
  rw [Dec.decodeChecked, h, Result.bind_ok]

theorem Dec.decodeChecked_of_err {w : Word} {e : ErrorKind} (h : Dec.decode w = .err e) :
    Dec.decodeChecked w = .err e := by
  rw [Dec.decodeChecked, h, Result.bind_err]

/-- In Load and Store the width decides between decode's result and OutOfRange (R81). -/
theorem Dec.decodeChecked_of_load_or_store {w : Word} (h : Dec.classify w = .ok .load ∨ Dec.classify w = .ok .store) :
    Dec.decodeChecked w = if widthCodeValid (w.extractLsb' 12 3) then Dec.decode w else .err .outOfRange := by
  obtain h | h := h
  · rw [Dec.decodeChecked_of_ok (Dec.decode_of_load h), Dec.decode_of_load h, Dec.checkWidth]
  · rw [Dec.decodeChecked_of_ok (Dec.decode_of_store h), Dec.decode_of_store h, Dec.checkWidth]

/-- Math and Constant have no width to refuse (R81). -/
theorem Dec.decodeChecked_of_math_or_constant {w : Word}
    (h : Dec.classify w = .ok .math ∨ Dec.classify w = .ok .constant) : Dec.decodeChecked w = Dec.decode w := by
  obtain h | h := h
  · rw [Dec.decodeChecked_of_ok (Dec.decode_of_math h), Dec.decode_of_math h, Dec.checkWidth]
  · rw [Dec.decodeChecked_of_ok (Dec.decode_of_constant h), Dec.decode_of_constant h, Dec.checkWidth]

/-- Settles O9: decode's error first, then the width test of the format's breakdown. -/
theorem decodeCheckedRefusesReservedWidths : Obligations.DecodeCheckedRefusesReservedWidths := by
  refine ⟨fun w e => Dec.decodeChecked_of_err, fun w h hwidth => ?_, fun w h hwidth => ?_,
    fun w => Dec.decodeChecked_of_math_or_constant, fun w => ?_, by decide, by decide⟩
  · rw [Dec.decodeChecked_of_load_or_store h, widthCodeValid_eq_false_iff.mpr hwidth]
    rfl
  · rw [Dec.decodeChecked_of_load_or_store h, widthCodeValid_iff.mpr hwidth, if_pos rfl]
  · rw [Dec.widthValid_eq, widthCodeValid_iff]

/-- The width check passes a Load or Store breakdown when its width code has a width text (R81). -/
theorem Dec.checkWidth_load_eq_ok_iff {width : Code3} {dest base : RegIx} {offset : Offset} :
    Dec.checkWidth (.load width dest base offset) = .ok (.load width dest base offset) ↔
      widthCodeValid width = true := by
  simp [Dec.checkWidth]

theorem Dec.checkWidth_store_eq_ok_iff {width : Code3} {base source : RegIx} {offset : Offset} :
    Dec.checkWidth (.store width base source offset) = .ok (.store width base source offset) ↔
      widthCodeValid width = true := by
  simp [Dec.checkWidth]

/-! ### The extractors -/

/-- Settles O3: each extractor is the slice of its formula. -/
theorem fieldExtractorsAreSlices : Obligations.FieldExtractorsAreSlices := by
  refine ⟨fun w => ⟨Dec.getLoadWidth_eq_slice w, Dec.getStoreWidth_eq_slice w, Dec.getMathFunction_eq_slice w⟩,
    fun w => ⟨Dec.getLoadDest_eq_slice w, Dec.getMathDest_eq_slice w, Dec.getConstantDest_eq_slice w, ?_⟩,
    fun w => ⟨Dec.getLoadBase_eq_slice w, Dec.getStoreBase_eq_slice w, Dec.getMathOperandA_eq_slice w⟩,
    fun w => ⟨Dec.getStoreSource_eq_slice w, Dec.getMathOperandB_eq_slice w⟩,
    fun w => ⟨Dec.getLoadOffset_eq_slice w, ?_, Dec.getConstantValue_eq_slice w⟩, by decide⟩
  · rw [Dec.getStoreOffset_eq_append, BitVec.extractLsb'_append_eq_right]
  · rw [Dec.getStoreOffset_eq_append, BitVec.extractLsb'_append_eq_left]

/-- Settles O6: nothing stands above word[31:12], so the value is the word without its low twelve bits, and its top bit
is the word's. -/
theorem constantValueIsUnsigned : Obligations.ConstantValueIsUnsigned := by
  refine ⟨fun w => ⟨Dec.getConstantValue_eq_slice w, ?_, Nat.le_of_lt_succ (Dec.getConstantValue w).isLt⟩, fun w => ?_,
    by decide, by decide, by decide⟩
  · have hw := w.isLt
    rw [Dec.getConstantValue_eq_slice, BitVec.extractLsb'_toNat, Nat.shiftRight_eq_div_pow, Nat.mod_eq_of_lt]
    omega
  · simp [Dec.getConstantValue_eq_slice]

/-! ### Words that agree under a mask (R79) -/

/-- Two words that agree under a mask agree on every slice the mask covers. -/
theorem extractLsb'_eq_of_and_eq {w v mask : Word} (h : w &&& mask = v &&& mask) {start len : Nat}
    (hmask : mask.extractLsb' start len = BitVec.allOnes len) : w.extractLsb' start len = v.extractLsb' start len := by
  have hslice := congrArg (BitVec.extractLsb' start len) h
  simpa only [BitVec.extractLsb'_and, hmask, BitVec.and_allOnes] using hslice

/-- decode reads [31:2] alone: every slice of the extractors lies in it. -/
theorem Dec.decode_eq_of_and_eq {w v : Word} (h : w &&& 0xFFFFFFFC = v &&& 0xFFFFFFFC) :
    Dec.decode w = Dec.decode v := by
  have hclass : Dec.classify w = Dec.classify v := Dec.classify_eq_of_opcode_eq (extractLsb'_eq_of_and_eq h rfl)
  have h12_3 : w.extractLsb' 12 3 = v.extractLsb' 12 3 := extractLsb'_eq_of_and_eq h rfl
  have h7_5 : w.extractLsb' 7 5 = v.extractLsb' 7 5 := extractLsb'_eq_of_and_eq h rfl
  have h15_5 : w.extractLsb' 15 5 = v.extractLsb' 15 5 := extractLsb'_eq_of_and_eq h rfl
  have h20_5 : w.extractLsb' 20 5 = v.extractLsb' 20 5 := extractLsb'_eq_of_and_eq h rfl
  have h20_12 : w.extractLsb' 20 12 = v.extractLsb' 20 12 := extractLsb'_eq_of_and_eq h rfl
  have h25_7 : w.extractLsb' 25 7 = v.extractLsb' 25 7 := extractLsb'_eq_of_and_eq h rfl
  have h12_20 : w.extractLsb' 12 20 = v.extractLsb' 12 20 := extractLsb'_eq_of_and_eq h rfl
  cases hv : Dec.classify v with
  | err e => rw [Dec.decode_eq_err_iff.mpr hv, Dec.decode_eq_err_iff.mpr (hclass.trans hv)]
  | ok f =>
    have hw := hclass.trans hv
    cases f with
    | load => rw [Dec.decode_of_load hw, Dec.decode_of_load hv, h12_3, h7_5, h15_5, h20_12]
    | store => rw [Dec.decode_of_store hw, Dec.decode_of_store hv, h12_3, h15_5, h20_5, h25_7, h7_5]
    | math => rw [Dec.decode_of_math hw, Dec.decode_of_math hv, h12_3, h15_5, h20_5, h7_5]
    | constant => rw [Dec.decode_of_constant hw, Dec.decode_of_constant hv, h12_20, h7_5]

/-- decode of a Math word reads [24:2] alone (R43). -/
theorem Dec.decode_eq_of_and_eq_of_math {w v : Word} (hw : Dec.classify w = .ok .math)
    (h : w &&& 0x01FFFFFC = v &&& 0x01FFFFFC) : Dec.decode w = Dec.decode v := by
  have hclass : Dec.classify w = Dec.classify v := Dec.classify_eq_of_opcode_eq (extractLsb'_eq_of_and_eq h rfl)
  have h12_3 : w.extractLsb' 12 3 = v.extractLsb' 12 3 := extractLsb'_eq_of_and_eq h rfl
  have h7_5 : w.extractLsb' 7 5 = v.extractLsb' 7 5 := extractLsb'_eq_of_and_eq h rfl
  have h15_5 : w.extractLsb' 15 5 = v.extractLsb' 15 5 := extractLsb'_eq_of_and_eq h rfl
  have h20_5 : w.extractLsb' 20 5 = v.extractLsb' 20 5 := extractLsb'_eq_of_and_eq h rfl
  rw [Dec.decode_of_math hw, Dec.decode_of_math (hclass.symm.trans hw), h12_3, h7_5, h15_5, h20_5]

/-- Settles O8: words that agree on the bits decode reads have one result, and a canonical word is the encoding of its
breakdown. -/
theorem decodeIgnoresTheBitsItDoesNotRead : Obligations.DecodeIgnoresTheBitsItDoesNotRead := by
  refine ⟨fun w f _ => ⟨Dec.decode_eq_of_and_eq ?_, Dec.decode_eq_of_and_eq ?_⟩,
    fun w hmath => Dec.decode_eq_of_and_eq_of_math hmath ?_, fun w v f _ => Dec.decode_eq_of_and_eq,
    fun w v hmath => Dec.decode_eq_of_and_eq_of_math hmath,
    fun w v h => Dec.classify_eq_of_opcode_eq (extractLsb'_eq_of_and_eq h rfl), by decide, by decide,
    fun w v hw hv hsame => ?_⟩
  · rw [BitVec.and_or_distrib_right]
    simp
  · rw [BitVec.and_assoc]
    rfl
  · rw [BitVec.and_assoc]
    rfl
  · obtain ⟨-, ⟨f, hclass⟩, -⟩ := canonical_iff.mp hw
    obtain ⟨b, hb⟩ := Dec.exists_decode_of_classify hclass
    rw [eq_encode_of_canonical hw hb, eq_encode_of_canonical hv (hsame.symm.trans hb)]

end Sys2Proof
end

section
/-! Packed words side by side (R101): over one layout two words differ in the fields that differ. -/

namespace Sys2Proof

/-- Two words laid out over the same fields are compared field by field under a mask laid out over them too. -/
theorem append_xor_append_and_append {m n : Nat} (hi hi' mhi : BitVec m) (lo lo' mlo : BitVec n) :
    ((hi ++ lo) ^^^ (hi' ++ lo')) &&& (mhi ++ mlo) = ((hi ^^^ hi') &&& mhi) ++ ((lo ^^^ lo') &&& mlo) := by
  rw [BitVec.xor_append, BitVec.and_append]

/-- Two words of one format under a mask that keeps the low seven bits, which are alike. -/
theorem load_fields_xor_and (o o' mo : Offset) (b b' mb : RegIx) (w w' mw : Code3) (d d' md : RegIx) (low : BitVec 7) :
    ((o ++ b ++ w ++ d ++ low) ^^^ (o' ++ b' ++ w' ++ d' ++ low)) &&& (mo ++ mb ++ mw ++ md ++ 0x7F#7) =
      ((o ^^^ o') &&& mo) ++ ((b ^^^ b') &&& mb) ++ ((w ^^^ w') &&& mw) ++ ((d ^^^ d') &&& md) ++ 0#7 := by
  simp only [append_xor_append_and_append, BitVec.xor_self, BitVec.zero_and]

theorem store_fields_xor_and (t t' mt : BitVec 7) (s s' ms b b' mb : RegIx) (w w' mw : Code3) (d d' md : BitVec 5)
    (low : BitVec 7) :
    ((t ++ s ++ b ++ w ++ d ++ low) ^^^ (t' ++ s' ++ b' ++ w' ++ d' ++ low)) &&&
        (mt ++ ms ++ mb ++ mw ++ md ++ 0x7F#7) =
      ((t ^^^ t') &&& mt) ++ ((s ^^^ s') &&& ms) ++ ((b ^^^ b') &&& mb) ++ ((w ^^^ w') &&& mw) ++
        ((d ^^^ d') &&& md) ++ 0#7 := by
  simp only [append_xor_append_and_append, BitVec.xor_self, BitVec.zero_and]

theorem constant_fields_xor_and (v v' mv : Value) (d d' md : RegIx) (low : BitVec 7) :
    ((v ++ d ++ low) ^^^ (v' ++ d' ++ low)) &&& (mv ++ md ++ 0x7F#7) =
      ((v ^^^ v') &&& mv) ++ ((d ^^^ d') &&& md) ++ 0#7 := by
  simp only [append_xor_append_and_append, BitVec.xor_self, BitVec.zero_and]

/-- The tag of a tag's format. -/
@[simp] theorem Format.code_ofCode (tag : BitVec 2) : (Format.ofCode tag).code = tag :=
  (Format.ofCode_eq_iff.mp rfl).symm

/-- Settles O17: each mask leaves out the changed field, so what it lets through is equal fields; decode tells
breakdowns and formats apart. -/
theorem noFieldCorruptsAnother : Obligations.NoFieldCorruptsAnother := by
  refine ⟨fun w d b o x => ?_, fun w b s o x => ?_, fun f a b d x => ?_, fun v d x => ?_, fun b c h => ?_,
    fun c d hfmt hsame => hfmt ?_⟩
  · simp only [Enc.encodeLoad_eq_append]
    exact ⟨(load_fields_xor_and (mo := 0xFFF) (mb := 0x1F) (mw := 0) (md := 0x1F) ..).trans (by simp),
      (load_fields_xor_and (mo := 0xFFF) (mb := 0x1F) (mw := 7) (md := 0) ..).trans (by simp),
      (load_fields_xor_and (mo := 0xFFF) (mb := 0) (mw := 7) (md := 0x1F) ..).trans (by simp),
      (load_fields_xor_and (mo := 0) (mb := 0x1F) (mw := 7) (md := 0x1F) ..).trans (by simp)⟩
  · simp only [Enc.encodeStore_eq_append]
    exact ⟨(store_fields_xor_and (mt := 0x7F) (ms := 0x1F) (mb := 0x1F) (mw := 0) (md := 0x1F) ..).trans (by simp),
      (store_fields_xor_and (mt := 0x7F) (ms := 0x1F) (mb := 0) (mw := 7) (md := 0x1F) ..).trans (by simp),
      (store_fields_xor_and (mt := 0x7F) (ms := 0) (mb := 0x1F) (mw := 7) (md := 0x1F) ..).trans (by simp),
      (store_fields_xor_and (mt := 0) (ms := 0x1F) (mb := 0x1F) (mw := 7) (md := 0) ..).trans (by simp)⟩
  · simp only [Enc.encodeMath_eq_append]
    exact ⟨(store_fields_xor_and (mt := 0) (ms := 0x1F) (mb := 0x1F) (mw := 0) (md := 0x1F) ..).trans (by simp),
      (store_fields_xor_and (mt := 0x7F) (ms := 0x1F) (mb := 0) (mw := 7) (md := 0x1F) ..).trans (by simp),
      (store_fields_xor_and (mt := 0x7F) (ms := 0) (mb := 0x1F) (mw := 7) (md := 0x1F) ..).trans (by simp),
      (store_fields_xor_and (mt := 0x7F) (ms := 0x1F) (mb := 0x1F) (mw := 7) (md := 0) ..).trans (by simp)⟩
  · simp only [Enc.encodeConstant_eq_append]
    exact ⟨(constant_fields_xor_and (mv := 0) (md := 0x1F) ..).trans (by simp),
      (constant_fields_xor_and (mv := 0xFFFFF) (md := 0) ..).trans (by simp)⟩
  · exact Result.ok.inj ((Dec.decode_encode b).symm.trans ((congrArg Dec.decode h).trans (Dec.decode_encode c)))
  · have hclass := Dec.classify_eq_of_opcode_eq hsame
    rw [Enc.classify_word, Enc.classify_word] at hclass
    rw [← Format.code_ofCode c.fmt, Result.ok.inj hclass, Format.code_ofCode]

end Sys2Proof
end

section
/-! The evaluation of any inputs is settled and whole (R18, R82, R172, R190), and what follows about steps. -/

namespace Sys2Proof.Machine

/-! ### The status ports, by what classify answers (R82) -/

theorem portFmtValid_of_ok {w : Word} {f : Format} (h : Dec.classify w = .ok f) : portFmtValid w = true := by
  rw [portFmtValid, h]
theorem portFmtValid_of_err {w : Word} {e : ErrorKind} (h : Dec.classify w = .err e) : portFmtValid w = false := by
  rw [portFmtValid, h]
theorem portFmt_of_ok {w : Word} {f : Format} (h : Dec.classify w = .ok f) : portFmt w = f.code := by
  rw [portFmt, h]
theorem portErr_of_ok {w : Word} {f : Format} (h : Dec.classify w = .ok f) : portErr w = 0 := by
  rw [portErr, h]
theorem portErr_of_err {w : Word} {e : ErrorKind} (h : Dec.classify w = .err e) : portErr w = e.code := by
  rw [portErr, h]

/-- `fmt_valid` says that the word is of some format. -/
theorem portFmtValid_iff {w : Word} : portFmtValid w = true ↔ ∃ f, Dec.classify w = .ok f := by
  cases h : Dec.classify w with
  | ok f => simp [portFmtValid_of_ok h]
  | err e => simp [portFmtValid_of_err h]

/-- `err` is 0 for a word of some format and UnknownFormat's number, 1, for any other. -/
theorem portErr_eq (w : Word) : portErr w = if portFmtValid w then 0 else 1 := by
  cases h : Dec.classify w with
  | ok f => rw [portErr_of_ok h, portFmtValid_of_ok h, if_pos rfl]
  | err e =>
    obtain ⟨rfl, -⟩ := Dec.classify_eq_err_iff.mp h
    rw [portErr_of_err h, portFmtValid_of_err h]
    rfl

/-- DEC's ports are the slices and the classification of R82's table. -/
theorem decPorts_agreesWith (w : Word) : (decPorts w).agreesWith w :=
  ⟨Dec.extractOpcode_eq_slice w, Dec.getLoadWidth_eq_slice w, Dec.getLoadDest_eq_slice w, Dec.getLoadBase_eq_slice w,
    Dec.getStoreSource_eq_slice w, Dec.getLoadOffset_eq_slice w, Dec.getStoreOffset_eq_append w,
    Dec.getConstantValue_eq_slice w, portFmtValid_iff.trans Dec.exists_classify_iff,
    fun h => portFmt_of_ok (Dec.classify_eq_ok_iff (f := .load).mpr h),
    fun h => portFmt_of_ok (Dec.classify_eq_ok_iff (f := .store).mpr h),
    fun h => portFmt_of_ok (Dec.classify_eq_ok_iff (f := .math).mpr h),
    fun h => portFmt_of_ok (Dec.classify_eq_ok_iff (f := .constant).mpr h),
    portErr_eq w, (Bool.eq_iff_iff.mp (Dec.widthValid_eq w)).trans widthCodeValid_iff_ne⟩

/-! ### Evaluations and steps -/

theorem evaluation_settled (w : Word) (c : EncCall) : (evaluation w c).Settled where
  ports := decPorts_agreesWith w
  packed := rfl
  decoded_eq := rfl
  checked_eq := rfl
  recoded_eq := by
    cases hb : Dec.decode w with
    | ok b => simp [hb, Enc.encode_eq_canon_of_decode hb]
    | err e => simp [hb]

theorem evaluation_noPartialResult (w : Word) (c : EncCall) : (evaluation w c).NoPartialResult where
  error_whole e he := by
    simp only [evaluation_decoded] at he
    simp [Dec.decodeChecked_of_err he, he]
  recoded_whole b hb := by
    simp only [evaluation_decoded] at hb
    exact ⟨Enc.encode b, by simp [hb], canonical_encode b⟩
  checked_whole b c hb hc := by
    simp only [evaluation_decoded, evaluation_checked] at hb hc
    rw [Dec.decodeChecked_of_ok hb] at hc
    obtain h | h := Dec.checkWidth_cases b <;> simp [h] at hc
    exact hc.symm

/-- Settles O37: a step is the evaluation of the inputs, whatever the state held. -/
theorem everyStepIsSafe : Obligations.EveryStepIsSafe := fun s =>
  ⟨_, step_eq_evaluation s, evaluation_settled s.word s.encIn, evaluation_noPartialResult s.word s.encIn⟩

/-- Settles O38: the reset state is the evaluation of its own inputs. -/
theorem resetIsSettled : Obligations.ResetIsSettled := by
  have hreset : State.reset = evaluation State.reset.word State.reset.encIn := rfl
  rw [Obligations.ResetIsSettled, hreset]
  exact ⟨evaluation_settled _ _, evaluation_noPartialResult _ _⟩

/-- Settles O10: the evaluation's ports are those of its word. -/
theorem stepDrivesTheDecoderPorts : Obligations.StepDrivesTheDecoderPorts := by
  refine ⟨fun s => ⟨_, step_eq_evaluation s, decPorts_agreesWith s.word⟩, fun s s' hword t t' ht ht' => ?_⟩
  rw [step_eq_next_iff.mp ht, step_eq_next_iff.mp ht', evaluation_dec, evaluation_dec, hword]

/-- Settles O16: ENC's word in an evaluation is the packing function of the call's format. -/
theorem encoderPortsFollowTheTag : Obligations.EncoderPortsFollowTheTag := by
  refine ⟨fun s => ⟨_, step_eq_evaluation s, fun h => Enc.word_of_load (Format.ofCode_eq_iff.mpr h),
    fun h => Enc.word_of_store (Format.ofCode_eq_iff.mpr h), fun h => Enc.word_of_math (Format.ofCode_eq_iff.mpr h),
    fun h => Enc.word_of_constant (Format.ofCode_eq_iff.mpr h)⟩, ?_, ?_, ?_, ?_⟩
  · intro c x h
    have hfmt : Format.ofCode c.fmt = .load := Format.ofCode_eq_iff.mpr h
    rw [Enc.word_of_load hfmt, Enc.word_of_load (c := { c with rs2 := x }) hfmt]
  · intro c x h
    have hfmt : Format.ofCode c.fmt = .store := Format.ofCode_eq_iff.mpr h
    rw [Enc.word_of_store hfmt, Enc.word_of_store (c := { c with rd := x }) hfmt]
  · intro c x h
    have hfmt : Format.ofCode c.fmt = .math := Format.ofCode_eq_iff.mpr h
    rw [Enc.word_of_math hfmt, Enc.word_of_math (c := { c with imm := x }) hfmt]
  · intro c x y z h
    have hfmt : Format.ofCode c.fmt = .constant := Format.ofCode_eq_iff.mpr h
    rw [Enc.word_of_constant hfmt, Enc.word_of_constant (c := { c with f3 := x, rs1 := y, rs2 := z }) hfmt]

/-- Settles O26: exec of the decoded instruction is the step's own arm; an instruction's call is in range. -/
theorem stepRunsTheDecodedInstruction : Obligations.StepRunsTheDecodedInstruction := by
  refine ⟨fun s i hi _ => ?_, fun i => i.breakdown.call_inRange, fun s => rfl⟩
  rw [step_of_ok (decode_eq_ok hi), exec_eq]

/-- Settles O41: an evaluation holds its inputs, so evaluating it again gives it back. -/
theorem repeatedEvaluationIsStable : Obligations.RepeatedEvaluationIsStable := by
  intro s t ht
  obtain rfl := step_eq_next_iff.mp ht
  exact ⟨rfl, rfl, step_eq_evaluation _⟩

/-- Settles O39: a word of no format evaluates to its error, and decode has no error on any other word. -/
theorem unknownWordGivesATypedError : Obligations.UnknownWordGivesATypedError := by
  have hunknown (w : Word) : Dec.decode w = .err .unknownFormat ↔ w.extractLsb' 2 5 ≠ 0x00 ∧ w.extractLsb' 2 5 ≠ 0x08 ∧
      w.extractLsb' 2 5 ≠ 0x0C ∧ w.extractLsb' 2 5 ≠ 0x0D := by
    rw [Dec.decode_eq_err_iff, Dec.classify_eq_err_iff, Format.forall_opcode_ne_iff, eq_self, true_and]
  refine ⟨fun s h0 h8 hC hD => ?_, fun s t ht herr => ?_, by decide, by decide, by decide⟩
  · have hdecode : Dec.decode s.word = .err .unknownFormat := (hunknown _).mpr ⟨h0, h8, hC, hD⟩
    have hclass := Dec.decode_eq_err_iff.mp hdecode
    refine ⟨_, step_eq_evaluation s, hdecode, Dec.decodeChecked_of_err hdecode, ?_, portFmtValid_of_err hclass,
      portErr_of_err hclass, Dec.extractOpcode_eq_slice _, rfl, rfl, rfl, step_eq_evaluation _⟩
    rw [evaluation_recoded, hdecode, Result.map_err]
  · obtain rfl := step_eq_next_iff.mp ht
    exact (hunknown _).mp herr

/-- Settles O42: along the stream each step evaluates its own word. -/
theorem streamGivesEachWordItsResult : Obligations.StreamGivesEachWordItsResult := by
  have hstream (s : State) (ws : List Word) : evalStream s ws = ws.map Dec.decode := by
    induction ws generalizing s with
    | nil => rfl
    | cons w ws ih => simp [evalStream, step_eq_evaluation, ih]
  exact ⟨hstream, fun s ws => by rw [hstream, hstream, List.map_reverse]⟩

/-- Settles O43: the supplied word is the encoding, which the step decodes and encodes again. -/
theorem suppliedInstructionIsEvaluated : Obligations.SuppliedInstructionIsEvaluated := by
  intro s i
  have hword : (s.withFetchWord 32 (encode i).toNat).word = encode i := by
    simp [State.withFetchWord]
  refine ⟨_, step_eq_evaluation _, ?_, ?_, hword, rfl⟩
  · rw [evaluation_decoded, hword, encode, Dec.decode_encode]
  · rw [evaluation_recoded, hword, encode, Dec.decode_encode, Result.map_ok]

end Sys2Proof.Machine
end

section
/-! The name lookups on tables that meet R155 (R151 to R154), and the decode entry point (R163). -/

namespace Sys2Proof

/-- R155's constraints on the register names. -/
theorem NameTables.regName_of_wf {T : NameTables} (hwf : T.wf = true) :
    T.regName.length = 32 ∧ T.regName[0]? = some ['z', 'e', 'r', 'o'] ∧ T.regName[31]? = some ['t', '6'] ∧
      T.regName.Nodup := by
  simp only [NameTables.wf, Bool.and_eq_true, decide_eq_true_eq, and_assoc] at hwf
  obtain ⟨hlength, hzero, ht6, hnodup, -⟩ := hwf
  exact ⟨hlength, hzero, ht6, hnodup⟩

/-- R155: no function name is another mnemonic. -/
theorem NameTables.not_mem_otherMnemonics_of_wf {T : NameTables} (hwf : T.wf = true) {s : Text} (hs : s ∈ T.funcName) :
    s ∉ otherMnemonics := by
  simp only [NameTables.wf, Bool.and_eq_true, decide_eq_true_eq, and_assoc, List.all_eq_true] at hwf
  obtain ⟨-, -, -, -, -, -, hother, -⟩ := hwf
  simpa using hother s hs

/-- R155's constraints on the width texts: the five keys, and no text twice. -/
theorem NameTables.widthText_of_wf {T : NameTables} (hwf : T.wf = true) :
    T.widthText.map Prod.fst = [0, 1, 2, 4, 5] ∧ (T.widthText.map Prod.snd).Nodup := by
  simp only [NameTables.wf, Bool.and_eq_true, decide_eq_true_eq, and_assoc] at hwf
  obtain ⟨-, -, -, -, -, -, -, hkeys, hnodup⟩ := hwf
  exact ⟨hkeys, hnodup⟩

end Sys2Proof

namespace Sys2Proof.Machine

@[simp] theorem entryOr_some (n : Text) : entryOr (some n) = .ok n := rfl

theorem entryOr_eq_ok_iff {x : Option Text} {n : Text} : entryOr x = .ok n ↔ x = some n := by
  cases x <;> simp [entryOr]

/-- Below the bound a register or function lookup is the table's entry. -/
theorem registerName_of_getElem? {T : NameTables} {i : Nat} {n : Text} (hi : i < 32) (hn : T.regName[i]? = some n) :
    registerName T i = .ok n := by
  rw [registerName, if_neg (by omega), hn, entryOr_some]

theorem functionName_of_getElem? {T : NameTables} {i : Nat} {n : Text} (hi : i < 8) (hn : T.funcName[i]? = some n) :
    functionName T i = .ok n := by
  rw [functionName, if_neg (by omega), hn, entryOr_some]

theorem exists_registerName {T : NameTables} (hwf : T.wf = true) {i : Nat} (hi : i < 32) :
    ∃ n, T.regName[i]? = some n ∧ registerName T i = .ok n := by
  obtain ⟨hlength, -⟩ := NameTables.regName_of_wf hwf
  have hn := List.getElem?_eq_getElem (hi.trans_eq hlength.symm)
  exact ⟨_, hn, registerName_of_getElem? hi hn⟩

theorem exists_functionName {T : NameTables} (hwf : T.wf = true) {i : Nat} (hi : i < 8) :
    ∃ n, T.funcName[i]? = some n ∧ functionName T i = .ok n := by
  obtain ⟨hlength, -⟩ := NameTables.funcName_length_and_nodup_of_wf hwf
  have hn := List.getElem?_eq_getElem (hi.trans_eq hlength.symm)
  exact ⟨_, hn, functionName_of_getElem? hi hn⟩

/-- Settles O45: the table has an entry for each index below 32, zero and t6 at its ends. -/
theorem registerNameLookup : Obligations.RegisterNameLookup := by
  intro T hwf
  obtain ⟨-, hzero, ht6, -⟩ := NameTables.regName_of_wf hwf
  exact ⟨registerName_of_getElem? (by decide) hzero, registerName_of_getElem? (by decide) ht6,
    fun i => exists_registerName hwf, fun i hi => if_pos hi⟩

/-- Settles O46: the table has an entry for each index below 8. -/
theorem functionNameLookup : Obligations.FunctionNameLookup :=
  fun _ hwf => ⟨fun _ => exists_functionName hwf, fun _ hi => if_pos hi⟩

/-- A width text found is an entry under its code. -/
theorem mem_of_widthText_eq_ok {T : NameTables} {i : Nat} {n : Text} (h : widthText T i = .ok n) :
    (i, n) ∈ T.widthText := by
  rw [widthText] at h
  split at h
  · cases h
  · obtain ⟨before, after, hsplit, -⟩ := List.lookup_eq_some_iff.mp (entryOr_eq_ok_iff.mp h)
    simp [hsplit]

/-- A code that is a key of the table has a width text. -/
theorem exists_widthText {T : NameTables} (hwf : T.wf = true) {i : Nat} (hi : i = 0 ∨ i = 1 ∨ i = 2 ∨ i = 4 ∨ i = 5) :
    ∃ n, widthText T i = .ok n := by
  obtain ⟨hkeys, -⟩ := NameTables.widthText_of_wf hwf
  have hmem : i ∈ T.widthText.map Prod.fst := by simpa [hkeys] using hi
  cases hfound : T.widthText.lookup i with
  | none =>
    obtain ⟨p, hp, rfl⟩ := List.mem_map.mp hmem
    simpa using List.lookup_eq_none_iff.mp hfound p hp
  | some n => exact ⟨n, by rw [widthText, if_neg (by omega), hfound, entryOr_some]⟩

theorem widthText_of_reserved (T : NameTables) {i : Nat} (hi : i = 3 ∨ 6 ≤ i) : widthText T i = .err .outOfRange :=
  if_pos hi

/-- Settles O47: a key's text is in the table, and two keys with one text are one entry. -/
theorem widthTextLookup : Obligations.WidthTextLookup := by
  intro T hwf
  obtain ⟨-, hnodup⟩ := NameTables.widthText_of_wf hwf
  refine ⟨fun i hi => ?_, fun i => widthText_of_reserved T, fun i j n hin hjn => ?_⟩
  · obtain ⟨n, hn⟩ := exists_widthText hwf hi
    exact ⟨n, mem_of_widthText_eq_ok hn, hn⟩
  · have hentry := List.inj_on_of_nodup_map hnodup (mem_of_widthText_eq_ok hin) (mem_of_widthText_eq_ok hjn) rfl
    exact congrArg Prod.fst hentry

set_option maxRecDepth 8000 in
/-- Settles O48: the constraints evaluated on the default tables. -/
theorem defaultTablesAreWellFormed : Obligations.DefaultTablesAreWellFormed := by
  unfold Obligations.DefaultTablesAreWellFormed
  decide

/-! ### The decode entry point -/

/-- A valid width code, as a number, has a width text. -/
theorem exists_widthText_of_valid {T : NameTables} (hwf : T.wf = true) {code : Code3} (h : widthCodeValid code = true) :
    ∃ n, widthText T code.toNat = .ok n := by
  refine exists_widthText hwf ?_
  obtain rfl | rfl | rfl | rfl | rfl := widthCodeValid_iff.mp h <;> decide

/-- With such tables every breakdown the width check passes has its names (R154). -/
theorem exists_resolveNames {T : NameTables} (hwf : T.wf = true) {b : Breakdown} (h : Dec.checkWidth b = .ok b) :
    ∃ n, resolveNames T b = .ok n := by
  have hreg (r : RegIx) : ∃ n, registerName T r.toNat = .ok n :=
    (exists_registerName hwf r.isLt).imp fun _ => And.right
  cases b with
  | load w d r o =>
    obtain ⟨_, hw⟩ := exists_widthText_of_valid hwf (Dec.checkWidth_load_eq_ok_iff.mp h)
    obtain ⟨_, hd⟩ := hreg d
    obtain ⟨_, hr⟩ := hreg r
    exact ⟨_, by rw [resolveNames, hw, hd, hr]; rfl⟩
  | store w r s o =>
    obtain ⟨_, hw⟩ := exists_widthText_of_valid hwf (Dec.checkWidth_store_eq_ok_iff.mp h)
    obtain ⟨_, hr⟩ := hreg r
    obtain ⟨_, hs⟩ := hreg s
    exact ⟨_, by rw [resolveNames, hw, hr, hs]; rfl⟩
  | math f a b d =>
    obtain ⟨_, -, hf⟩ := exists_functionName hwf f.isLt
    obtain ⟨_, ha⟩ := hreg a
    obtain ⟨_, hb⟩ := hreg b
    obtain ⟨_, hd⟩ := hreg d
    exact ⟨_, by rw [resolveNames, hf, ha, hb, hd]; rfl⟩
  | constant v d =>
    obtain ⟨_, hd⟩ := hreg d
    exact ⟨_, by rw [resolveNames, hd]; rfl⟩

/-- The checked decode passes on decode's breakdown or nothing. -/
theorem decode_and_checkWidth_of_decodeChecked {w : Word} {b : Breakdown} (h : Dec.decodeChecked w = .ok b) :
    Dec.decode w = .ok b ∧ Dec.checkWidth b = .ok b := by
  obtain ⟨a, ha, hcheck⟩ := Result.bind_eq_ok h
  obtain hok | herr := Dec.checkWidth_cases a
  · obtain rfl : a = b := Result.ok.inj (hok.symm.trans hcheck)
    exact ⟨ha, hok⟩
  · rw [herr] at hcheck
    cases hcheck

/-- Settles O49: the checked decode's error is handed on, and no lookup fails after it has passed. -/
theorem decodeEntryFailsAsDecodeChecked : Obligations.DecodeEntryFailsAsDecodeChecked := by
  intro T w hwf
  cases hchecked : Dec.decodeChecked w with
  | err e => simp [decodeEntry, hchecked]
  | ok b =>
    obtain ⟨hdecode, hcheck⟩ := decode_and_checkWidth_of_decodeChecked hchecked
    obtain ⟨n, hn⟩ := exists_resolveNames hwf hcheck
    have hentry : decodeEntry T w = .ok (b, n) := by rw [decodeEntry, hchecked, Result.bind_ok, hn, Result.map_ok]
    refine ⟨fun e => by simp [hentry], fun b' n' h => ?_⟩
    obtain ⟨rfl, rfl⟩ := Prod.mk.inj (Result.ok.inj (hentry.symm.trans h))
    exact ⟨hdecode, hn⟩

end Sys2Proof.Machine
end

section
/-! The text helpers (R156 to R161, D15), each by what it answers. -/

namespace Sys2Proof

/-- A mapped result has the error of the result. -/
theorem Result.map_eq_err {α β : Type} {f : α → β} {r : Result α} {e : ErrorKind}
    (h : r.map f = .err e) : r = .err e := by
  cases r with
  | ok a => cases h
  | err e' => exact congrArg Result.err (Result.err.inj h)

/-- A bound result's error is the first part's or, over its value, the second's. -/
theorem Result.bind_eq_err {α β : Type} {r : Result α} {f : α → Result β} {e : ErrorKind} (h : r.bind f = .err e) :
    r = .err e ∨ ∃ a, r = .ok a ∧ f a = .err e := by
  cases r with
  | ok a => exact .inr ⟨a, rfl, h⟩
  | err e' => exact .inl (congrArg Result.err (Result.err.inj h))

end Sys2Proof

namespace Sys2Proof.Machine

/-! ### Suffixes and mnemonics -/

/-- The suffixes give width codes that have a width text; any other text is refused (R156). -/
theorem widthFromSuffix_cases (s : Text) :
    (s ∈ widthSuffixes ∧ ∃ c, widthFromSuffix s = .ok c ∧ widthCodeValid c = true) ∨
    (s ∉ widthSuffixes ∧ widthFromSuffix s = .err .unknownFunctionName) := by
  by_cases hs : s ∈ widthSuffixes
  · refine .inl ⟨hs, ?_⟩
    simp only [widthSuffixes, List.mem_cons, List.not_mem_nil, or_false] at hs
    obtain rfl | rfl | rfl | rfl | rfl := hs <;> exact ⟨_, rfl, rfl⟩
  · refine .inr ⟨hs, ?_⟩
    simp only [widthSuffixes, List.mem_cons, List.not_mem_nil, or_false, not_or] at hs
    obtain ⟨hb, hh, hw, hbu, hhu⟩ := hs
    rw [widthFromSuffix, if_neg hb, if_neg hh, if_neg hw, if_neg hbu, if_neg hhu]

/-- A text with a width code is one of the suffixes, and its code has a width text. -/
theorem of_widthFromSuffix_eq_ok {s : Text} {c : Code3} (h : widthFromSuffix s = .ok c) :
    s ∈ widthSuffixes ∧ widthCodeValid c = true := by
  obtain ⟨hmem, c', hok, hvalid⟩ | ⟨-, herr⟩ := widthFromSuffix_cases s
  · obtain rfl := Result.ok.inj (hok.symm.trans h)
    exact ⟨hmem, hvalid⟩
  · cases herr.symm.trans h

theorem widthFromSuffix_of_not_mem {s : Text} (h : s ∉ widthSuffixes) :
    widthFromSuffix s = .err .unknownFunctionName := by
  obtain ⟨hmem, -⟩ | ⟨-, herr⟩ := widthFromSuffix_cases s
  · exact absurd hmem h
  · exact herr

theorem widthFromSuffix_eq_err {s : Text} {e : ErrorKind} (h : widthFromSuffix s = .err e) :
    e = .unknownFunctionName := by
  obtain ⟨-, c, hok, -⟩ | ⟨-, herr⟩ := widthFromSuffix_cases s
  · cases hok.symm.trans h
  · exact Result.err.inj (h.symm.trans herr)

/-- Settles O50: the six cases of a suffix. -/
theorem suffixesGiveTheirWidths : Obligations.SuffixesGiveTheirWidths :=
  ⟨rfl, rfl, rfl, rfl, rfl, fun _ => widthFromSuffix_of_not_mem,
    fun _ _ h => widthCodeValid_iff_ne.mp (of_widthFromSuffix_eq_ok h).2⟩

theorem functionFromMnemonic_eq_err {T : NameTables} {s : Text} {e : ErrorKind}
    (h : functionFromMnemonic T s = .err e) : e = .unknownFunctionName := by
  rw [functionFromMnemonic] at h
  split at h
  · cases h
  · exact (Result.err.inj h).symm

theorem sortMnemonic_of_function {T : NameTables} {s : Text} {f : Code3} (hlui : s ≠ ['l', 'u', 'i'])
    (hf : functionFromMnemonic T s = .ok f) : sortMnemonic T s = .ok (.math f) := by
  rw [sortMnemonic, if_neg hlui, hf]

theorem sortMnemonic_of_no_function {T : NameTables} {s : Text} {e : ErrorKind} (hlui : s ≠ ['l', 'u', 'i'])
    (hf : functionFromMnemonic T s = .err e) : sortMnemonic T s = suffixMnemonic s := by
  rw [sortMnemonic, if_neg hlui, hf]

/-- The readings of a mnemonic, in the order R160 tries them. -/
theorem sortMnemonic_cases (T : NameTables) (s : Text) :
    (s = ['l', 'u', 'i'] ∧ sortMnemonic T s = .ok .constant) ∨
    (∃ f, functionFromMnemonic T s = .ok f ∧ sortMnemonic T s = .ok (.math f)) ∨
    (sortMnemonic T s = suffixMnemonic s) := by
  by_cases hlui : s = ['l', 'u', 'i']
  · exact .inl ⟨hlui, if_pos hlui⟩
  · cases hf : functionFromMnemonic T s with
    | ok f => exact .inr (.inl ⟨f, rfl, sortMnemonic_of_function hlui hf⟩)
    | err e => exact .inr (.inr (sortMnemonic_of_no_function hlui hf))

/-- A suffix mnemonic is an `l` or an `s` with a suffix, or refused (R51). -/
theorem suffixMnemonic_cases (s : Text) :
    (∃ suffix c, s = 'l' :: suffix ∧ widthFromSuffix suffix = .ok c ∧ suffixMnemonic s = .ok (.load c)) ∨
    (∃ suffix c, s = 's' :: suffix ∧ widthFromSuffix suffix = .ok c ∧ suffixMnemonic s = .ok (.store c)) ∨
    suffixMnemonic s = .err .unknownFunctionName := by
  unfold suffixMnemonic
  split
  next suffix =>
    cases h : widthFromSuffix suffix with
    | ok c => exact .inl ⟨suffix, c, rfl, h, rfl⟩
    | err e => exact .inr (.inr (by rw [widthFromSuffix_eq_err h]; rfl))
  next suffix =>
    cases h : widthFromSuffix suffix with
    | ok c => exact .inr (.inl ⟨suffix, c, rfl, h, rfl⟩)
    | err e => exact .inr (.inr (by rw [widthFromSuffix_eq_err h]; rfl))
  next => exact .inr (.inr rfl)

theorem sortMnemonic_eq_err {T : NameTables} {s : Text} {e : ErrorKind} (h : sortMnemonic T s = .err e) :
    e = .unknownFunctionName := by
  obtain ⟨-, hsort⟩ | ⟨f, -, hsort⟩ | hsort := sortMnemonic_cases T s
  · rw [hsort] at h; cases h
  · rw [hsort] at h; cases h
  · rw [hsort] at h
    obtain ⟨_, _, -, -, hs⟩ | ⟨_, _, -, -, hs⟩ | hs := suffixMnemonic_cases s <;> rw [hs] at h <;> cases h
    rfl

/-- A Load or Store mnemonic carries a width code that has a width text. -/
theorem widthCodeValid_of_sortMnemonic {T : NameTables} {s : Text} {c : Code3}
    (h : sortMnemonic T s = .ok (.load c) ∨ sortMnemonic T s = .ok (.store c)) : widthCodeValid c = true := by
  obtain ⟨-, hsort⟩ | ⟨f, -, hsort⟩ | hsort := sortMnemonic_cases T s
  · simp [hsort] at h
  · simp [hsort] at h
  · rw [hsort] at h
    obtain ⟨_, c', -, hc, hs⟩ | ⟨_, c', -, hc, hs⟩ | hs := suffixMnemonic_cases s
    · obtain rfl : c' = c := by simpa [hs] using h
      exact (of_widthFromSuffix_eq_ok hc).2
    · obtain rfl : c' = c := by simpa [hs] using h
      exact (of_widthFromSuffix_eq_ok hc).2
    · simp [hs] at h

/-- With tables of R155 another mnemonic than `lui` is read by its letter and suffix. -/
theorem sortMnemonic_of_mem_otherMnemonics {T : NameTables} (hwf : T.wf = true) {s : Text} (hs : s ∈ otherMnemonics)
    (hlui : s ≠ ['l', 'u', 'i']) : sortMnemonic T s = suffixMnemonic s :=
  sortMnemonic_of_no_function hlui
    (functionFromMnemonic_of_not_mem fun hname => NameTables.not_mem_otherMnemonics_of_wf hwf hname hs)

set_option maxRecDepth 8000 in
/-- Settles O54: the order of the readings; R155 keeps the function names away from `l` and `s` with a suffix. -/
theorem mnemonicsAreSortedInOrder : Obligations.MnemonicsAreSortedInOrder := by
  refine ⟨fun T => if_pos rfl, fun T s f => sortMnemonic_of_function, fun T suffix w hwf h => ?_,
    fun T s hwf hfunc hother => ?_, by decide, by decide, by decide⟩
  · obtain ⟨hmem, -⟩ := of_widthFromSuffix_eq_ok h
    have hl : 'l' :: suffix ∈ otherMnemonics := by simp [otherMnemonics, hmem]
    have hs : 's' :: suffix ∈ otherMnemonics := by simp [otherMnemonics, hmem]
    have hlui : 'l' :: suffix ≠ ['l', 'u', 'i'] := by
      rintro hlui
      obtain rfl : suffix = ['u', 'i'] := by simpa using hlui
      exact absurd hmem (by decide)
    rw [sortMnemonic_of_mem_otherMnemonics hwf hl hlui, sortMnemonic_of_mem_otherMnemonics hwf hs (by simp)]
    simp [suffixMnemonic, h]
  · have hlui : s ≠ ['l', 'u', 'i'] := fun hlui => hother (by simp [otherMnemonics, hlui])
    rw [sortMnemonic_of_no_function hlui (functionFromMnemonic_of_not_mem hfunc)]
    obtain ⟨suffix, c, rfl, hc, -⟩ | ⟨suffix, c, rfl, hc, -⟩ | hs := suffixMnemonic_cases s
    · exact absurd (by simp [otherMnemonics, (of_widthFromSuffix_eq_ok hc).1]) hother
    · exact absurd (by simp [otherMnemonics, (of_widthFromSuffix_eq_ok hc).1]) hother
    · exact hs

/-! ### Registers -/

/-- In a table of 32 names, the register of a text is the index of the first match of the text before its delimiter. -/
theorem registerFromName_eq_ok_iff {T : NameTables} (hlength : T.regName.length = 32) {s : Text} {r : RegIx} :
    registerFromName T s = .ok r ↔ T.regName.idxOf? (s.takeWhile fun c => !isDelimiter c) = some r.toNat := by
  have htake : T.regName.take 32 = T.regName := List.take_of_length_le hlength.le
  rw [registerFromName, htake]
  cases hfound : T.regName.idxOf? (s.takeWhile fun c => !isDelimiter c) with
  | none => simp
  | some i =>
    obtain ⟨hi, -⟩ := List.idxOf?_eq_some_iff.mp hfound
    have hindex : i < 32 := hi.trans_eq hlength
    simp [← BitVec.toNat_inj, Nat.mod_eq_of_lt hindex]

theorem registerFromName_of_not_mem {T : NameTables} {s : Text}
    (hnone : (s.takeWhile fun c => !isDelimiter c) ∉ T.regName) : registerFromName T s = .err .unknownRegisterName := by
  have hnotFound : (T.regName.take 32).idxOf? (s.takeWhile fun c => !isDelimiter c) = none :=
    List.idxOf?_eq_none_iff.mpr fun hmem => hnone (List.mem_of_mem_take hmem)
  rw [registerFromName, hnotFound]

theorem registerFromName_eq_err {T : NameTables} {s : Text} {e : ErrorKind} (h : registerFromName T s = .err e) :
    e = .unknownRegisterName := by
  rw [registerFromName] at h
  split at h
  · cases h
  · exact (Result.err.inj h).symm

/-- The text before the first delimiter of a text cut there. -/
theorem takeWhile_not_delimiter {part rest : Text} (hpart : ∀ c ∈ part, isDelimiter c = false)
    (hrest : rest = [] ∨ ∃ c cs, rest = c :: cs ∧ isDelimiter c = true) :
    (part ++ rest).takeWhile (fun c => !isDelimiter c) = part := by
  rw [List.takeWhile_append_of_pos fun c hc => by simp [hpart c hc]]
  obtain rfl | ⟨c, cs, rfl, hc⟩ := hrest
  · simp
  · simp [hc]

set_option maxRecDepth 8000 in
/-- Settles O52: the first match is the only one among distinct names, and its place is the register. -/
theorem registerTextIsMatchedToItsDelimiter : Obligations.RegisterTextIsMatchedToItsDelimiter := by
  refine ⟨fun T part rest hwf hpart hrest => ⟨fun r => ?_, fun hnone => ?_⟩, fun c => ?_,
    by decide, by decide, by decide, by decide⟩
  · obtain ⟨hlength, -, -, hnodup⟩ := NameTables.regName_of_wf hwf
    rw [registerFromName_eq_ok_iff hlength, takeWhile_not_delimiter hpart hrest,
      idxOf?_eq_some_iff_getElem?_of_nodup hnodup]
  · exact registerFromName_of_not_mem (by rwa [takeWhile_not_delimiter hpart hrest])
  · simp [isDelimiter, isSpace, or_assoc]

/-! ### Memory operands -/

theorem parseMemOperand_of_no_open (T : NameTables) {s : Text} (h : '(' ∉ s) :
    parseMemOperand T s = .err .malformedOperand := by
  rw [parseMemOperand, splitFirst_none _ _ h]

theorem parseMemOperand_of_no_close (T : NameTables) {off rest : Text} (hoff : '(' ∉ off) (hrest : ')' ∉ rest) :
    parseMemOperand T (off ++ '(' :: rest) = .err .malformedOperand := by
  rw [parseMemOperand, splitFirst_append _ _ _ hoff]
  simp only [splitFirst_none _ _ hrest]

/-- With both parentheses in place a malformed offset is reported whatever the register text (R176). -/
theorem parseMemOperand_of_no_number (T : NameTables) {off reg : Text} (rest : Text) (hoff : '(' ∉ off)
    (hreg : ')' ∉ reg) (hnumber : number off = none) :
    parseMemOperand T (off ++ '(' :: (reg ++ ')' :: rest)) = .err .malformedOperand := by
  rw [parseMemOperand, splitFirst_append _ _ _ hoff]
  simp only [splitFirst_append _ _ _ hreg, hnumber]

/-- With an offset the register text decides (R159). -/
theorem parseMemOperand_of_number (T : NameTables) {off reg : Text} {x : Int} (rest : Text) (hoff : '(' ∉ off)
    (hreg : ')' ∉ reg) (hnumber : number off = some x) :
    parseMemOperand T (off ++ '(' :: (reg ++ ')' :: rest)) = (registerFromName T reg).map fun r => (x, r) := by
  rw [parseMemOperand, splitFirst_append _ _ _ hoff]
  simp only [splitFirst_append _ _ _ hreg, hnumber]

theorem parseMemOperand_eq_err {T : NameTables} {s : Text} {e : ErrorKind} (h : parseMemOperand T s = .err e) :
    e = .malformedOperand ∨ e = .unknownRegisterName := by
  unfold parseMemOperand at h
  split at h
  next => exact .inl (Result.err.inj h).symm
  next =>
    split at h
    next => exact .inl (Result.err.inj h).symm
    next =>
      split at h
      next => exact .inl (Result.err.inj h).symm
      next => exact .inr (registerFromName_eq_err (Result.map_eq_err h))

set_option maxRecDepth 8000 in
/-- Settles O53: the text around the first `(`, then around the first `)` after it. -/
theorem memoryOperandIsSplitAtItsParentheses : Obligations.MemoryOperandIsSplitAtItsParentheses :=
  ⟨fun T _ => parseMemOperand_of_no_open T, fun T _ _ => parseMemOperand_of_no_close T,
    fun T _ _ rest => parseMemOperand_of_no_number T rest, fun T _ _ rest _ => parseMemOperand_of_number T rest,
    by decide⟩

end Sys2Proof.Machine
end

section
/-! Numbers of the text form (R161, D15): the digits, and which of the bases a text is read in. -/

namespace Sys2Proof.Machine

/-- The decimal digits are the ten characters of the codes 48 to 57, in order. -/
theorem decDigit_iff {c : Char} {d : Nat} : decDigit c = some d ↔ "0123456789".toList[d]? = some c := by
  constructor
  · intro h
    simp only [decDigit, Option.ite_none_right_eq_some, Option.some.injEq] at h
    obtain ⟨⟨hlow, hhigh⟩, rfl⟩ := h
    obtain ⟨n, hn⟩ : ∃ n, c.toNat = n := ⟨_, rfl⟩
    obtain rfl : Char.ofNat n = c := by rw [← hn, Char.ofNat_toNat]
    rw [hn] at hlow hhigh ⊢
    interval_cases n <;> rfl
  · intro h
    obtain ⟨hd, rfl⟩ := List.getElem?_eq_some_iff.mp h
    change d < 10 at hd
    interval_cases d <;> rfl

/-- The hexadecimal digits are those and six letters in either case (log 10). -/
theorem hexDigit_iff {c : Char} {d : Nat} : hexDigit c = some d ↔
    "0123456789abcdef".toList[d]? = some c ∨ "0123456789ABCDEF".toList[d]? = some c := by
  constructor
  · intro h
    obtain ⟨n, hn⟩ : ∃ n, c.toNat = n := ⟨_, rfl⟩
    obtain rfl : Char.ofNat n = c := by rw [← hn, Char.ofNat_toNat]
    unfold hexDigit at h
    rw [hn] at h
    split at h
    next hrange =>
      obtain ⟨hlow, hhigh⟩ := hrange
      obtain rfl := Option.some.inj h
      left
      interval_cases n <;> rfl
    next =>
      split at h
      next hrange =>
        obtain ⟨hlow, hhigh⟩ := hrange
        obtain rfl := Option.some.inj h
        right
        interval_cases n <;> rfl
      next =>
        split at h
        next hrange =>
          obtain ⟨hlow, hhigh⟩ := hrange
          obtain rfl := Option.some.inj h
          left
          interval_cases n <;> rfl
        next => cases h
  · rintro (h | h) <;> obtain ⟨hd, rfl⟩ := List.getElem?_eq_some_iff.mp h <;> change d < 16 at hd <;>
      interval_cases d <;> rfl

/-- A text that does not begin with a minus is its own magnitude. -/
theorem number_of_head?_ne {t : Text} (h : t.head? ≠ some '-') : number t = (magnitude t).map (fun n => (n : Int)) := by
  unfold number
  split
  next => simp at h
  next => rfl

/-- A text that does not begin with `0x` is read in decimal. -/
theorem magnitude_of_take_ne {t : Text} (h : t.take 2 ≠ ['0', 'x']) : magnitude t = digits 10 decDigit t := by
  unfold magnitude
  split
  next => simp at h
  next => rfl

/-- One more digit multiplies what has been read by the base and adds its value. -/
theorem digitsFrom_append_digit {base a n d : Nat} {digit : Char → Option Nat} {ds : Text} {c : Char}
    (hds : digitsFrom base digit a ds = some n) (hc : digit c = some d) :
    digitsFrom base digit a (ds ++ [c]) = some (n * base + d) := by
  simp [digitsFrom_append, hds, digitsFrom, hc]

/-- A character that is no digit makes a text no number. -/
theorem digitsFrom_append_of_not_digit {base a : Nat} {digit : Char → Option Nat} {c : Char} (hc : digit c = none)
    (ds es : Text) : digitsFrom base digit a (ds ++ c :: es) = none := by
  rw [digitsFrom_append]
  cases digitsFrom base digit a ds with
  | none => rfl
  | some n => rw [Option.bind_some, digitsFrom, hc]

/-- Settles O55: the digits by their lists, the reading of digits by appending, and the bases by a text's beginning. -/
theorem numbersAreReadInTheirBase : Obligations.NumbersAreReadInTheirBase :=
  ⟨fun _ _ => decDigit_iff, fun _ _ => hexDigit_iff, fun _ => number_of_head?_ne, fun _ => magnitude_of_take_ne,
    fun _ => rfl, fun _ _ _ _ => ⟨rfl, rfl⟩, fun _ _ _ => rfl, fun _ _ _ hds _ _ => digitsFrom_append_digit hds,
    fun _ _ _ hds _ _ => digitsFrom_append_digit hds, fun _ => rfl, fun _ => rfl,
    fun _ _ _ ds es _ hc => digitsFrom_append_of_not_digit hc ds es,
    by decide, by decide, by decide, by decide, by decide, by decide, by decide⟩

end Sys2Proof.Machine
end

section
/-! The encode entry point (R162, R165, R176): what a line is packed to, and which error it ends in. -/

namespace Sys2Proof.Machine

/-! ### The operands -/

/-- A wrong number of tokens is reported before any operand is read (R162, R176). -/
theorem operandCall_of_length_ne (T : NameTables) {k : Mnemonic} {ops : List Text}
    (h : ops.length + 1 ≠ k.tokenCount) : operandCall T k ops = .err .invalidArgumentCount := by
  unfold operandCall
  split
  iterate 4
    next => exact absurd rfl h
  iterate 4
    next => rfl

/-- Operands that are read are as many as the format needs. -/
theorem length_of_operandCall_eq_ok {T : NameTables} {k : Mnemonic} {ops : List Text} {call : EncCall}
    (h : operandCall T k ops = .ok call) : ops.length + 1 = k.tokenCount := by
  by_contra hlength
  rw [operandCall_of_length_ne T hlength] at h
  cases h

/-- The operands of a Load line that is read, and the word they give. -/
theorem operandCall_load_eq_ok {T : NameTables} {c : Code3} {ops : List Text} {call : EncCall}
    (h : operandCall T (.load c) ops = .ok call) : ∃ r mem d x b, ops = [r, mem] ∧ registerFromName T r = .ok d ∧
      parseMemOperand T mem = .ok (x, b) ∧
      Enc.word call = Enc.encodeLoad (c.setWidth 32) (d.setWidth 32) (b.setWidth 32) (inputOfInt x) := by
  obtain ⟨r, mem, rfl⟩ := List.length_eq_two.mp (Nat.succ.inj (length_of_operandCall_eq_ok h))
  obtain ⟨d, hd, h⟩ := Result.bind_eq_ok h
  obtain ⟨⟨x, b⟩, hmem, h⟩ := Result.bind_eq_ok h
  obtain rfl := Result.ok.inj h
  exact ⟨r, mem, d, x, b, rfl, hd, hmem, rfl⟩

/-- The operands of a Store line that is read, and the word they give. -/
theorem operandCall_store_eq_ok {T : NameTables} {c : Code3} {ops : List Text} {call : EncCall}
    (h : operandCall T (.store c) ops = .ok call) : ∃ r mem d x b, ops = [r, mem] ∧ registerFromName T r = .ok d ∧
      parseMemOperand T mem = .ok (x, b) ∧
      Enc.word call = Enc.encodeStore (c.setWidth 32) (b.setWidth 32) (d.setWidth 32) (inputOfInt x) := by
  obtain ⟨r, mem, rfl⟩ := List.length_eq_two.mp (Nat.succ.inj (length_of_operandCall_eq_ok h))
  obtain ⟨d, hd, h⟩ := Result.bind_eq_ok h
  obtain ⟨⟨x, b⟩, hmem, h⟩ := Result.bind_eq_ok h
  obtain rfl := Result.ok.inj h
  exact ⟨r, mem, d, x, b, rfl, hd, hmem, rfl⟩

/-- The operands of a Math line that is read, and the word they give. -/
theorem operandCall_math_eq_ok {T : NameTables} {f : Code3} {ops : List Text} {call : EncCall}
    (h : operandCall T (.math f) ops = .ok call) : ∃ r1 r2 r3 d a b, ops = [r1, r2, r3] ∧
      registerFromName T r1 = .ok d ∧ registerFromName T r2 = .ok a ∧ registerFromName T r3 = .ok b ∧
      Enc.word call = Enc.encodeMath (f.setWidth 32) (a.setWidth 32) (b.setWidth 32) (d.setWidth 32) := by
  obtain ⟨r1, r2, r3, rfl⟩ := List.length_eq_three.mp (Nat.succ.inj (length_of_operandCall_eq_ok h))
  obtain ⟨d, hd, h⟩ := Result.bind_eq_ok h
  obtain ⟨a, ha, h⟩ := Result.bind_eq_ok h
  obtain ⟨b, hb, h⟩ := Result.bind_eq_ok h
  obtain rfl := Result.ok.inj h
  exact ⟨r1, r2, r3, d, a, b, rfl, hd, ha, hb, rfl⟩

/-- The operands of a `lui` line that is read, and the word they give. -/
theorem operandCall_constant_eq_ok {T : NameTables} {ops : List Text} {call : EncCall}
    (h : operandCall T .constant ops = .ok call) : ∃ r val d x, ops = [r, val] ∧ registerFromName T r = .ok d ∧
      number val = some x ∧ Enc.word call = Enc.encodeConstant (inputOfInt x) (d.setWidth 32) := by
  obtain ⟨r, val, rfl⟩ := List.length_eq_two.mp (Nat.succ.inj (length_of_operandCall_eq_ok h))
  obtain ⟨d, hd, h⟩ := Result.bind_eq_ok h
  cases hval : number val with
  | none => simp [hval] at h
  | some x =>
    simp only [hval, Result.ok.injEq] at h
    subst h
    exact ⟨r, val, d, x, rfl, hd, hval, rfl⟩

/-- Operands in the right number are read from the first register on, and the others fail as a register or a memory
operand fails. -/
theorem operandCall_eq_bind_first (T : NameTables) {k : Mnemonic} {ops : List Text}
    (hlength : ops.length + 1 = k.tokenCount) : ∃ r rest f, ops = r :: rest ∧
      operandCall T k ops = (registerFromName T r).bind f ∧
      ∀ d e, f d = .err e → e = .malformedOperand ∨ e = .unknownRegisterName := by
  cases k with
  | load c =>
    obtain ⟨r, mem, rfl⟩ := List.length_eq_two.mp (Nat.succ.inj hlength)
    refine ⟨r, _, _, rfl, rfl, fun d e he => ?_⟩
    obtain herr | ⟨_, -, hok⟩ := Result.bind_eq_err he
    · exact parseMemOperand_eq_err herr
    · cases hok
  | store c =>
    obtain ⟨r, mem, rfl⟩ := List.length_eq_two.mp (Nat.succ.inj hlength)
    refine ⟨r, _, _, rfl, rfl, fun d e he => ?_⟩
    obtain herr | ⟨_, -, hok⟩ := Result.bind_eq_err he
    · exact parseMemOperand_eq_err herr
    · cases hok
  | math f =>
    obtain ⟨r1, r2, r3, rfl⟩ := List.length_eq_three.mp (Nat.succ.inj hlength)
    refine ⟨r1, _, _, rfl, rfl, fun d e he => .inr ?_⟩
    obtain herr | ⟨_, -, he⟩ := Result.bind_eq_err he
    · exact registerFromName_eq_err herr
    · obtain herr | ⟨_, -, hok⟩ := Result.bind_eq_err he
      · exact registerFromName_eq_err herr
      · cases hok
  | constant =>
    obtain ⟨r, val, rfl⟩ := List.length_eq_two.mp (Nat.succ.inj hlength)
    refine ⟨r, _, _, rfl, rfl, fun d e he => .inl ?_⟩
    cases hval : number val with
    | none => simpa [hval] using he.symm
    | some x => simp [hval] at he

/-- The first operand's error is the line's, whatever the others (R176). -/
theorem operandCall_of_first_err {T : NameTables} {k : Mnemonic} {ops : List Text} {r : Text} {e : ErrorKind}
    (hlength : ops.length + 1 = k.tokenCount) (hfirst : ops.head? = some r) (hr : registerFromName T r = .err e) :
    operandCall T k ops = .err e := by
  obtain ⟨r', rest, f, rfl, hcall, -⟩ := operandCall_eq_bind_first T hlength
  obtain rfl : r' = r := Option.some.inj hfirst
  rw [hcall, hr, Result.bind_err]

/-- Operands in the right number fail as a register or a memory operand fails. -/
theorem operandCall_eq_err {T : NameTables} {k : Mnemonic} {ops : List Text} {e : ErrorKind}
    (hlength : ops.length + 1 = k.tokenCount) (h : operandCall T k ops = .err e) :
    e = .malformedOperand ∨ e = .unknownRegisterName := by
  obtain ⟨r, rest, f, -, hcall, hrest⟩ := operandCall_eq_bind_first T hlength
  obtain herr | ⟨d, -, herr⟩ := Result.bind_eq_err (hcall.symm.trans h)
  · exact .inr (registerFromName_eq_err herr)
  · exact hrest d e herr

/-! ### The line -/

theorem encodeText_of_sort_err {T : NameTables} {line m : Text} {ops : List Text} {e : ErrorKind}
    (htokens : tokens line = m :: ops) (hsort : sortMnemonic T m = .err e) : encodeText T line = .err e := by
  simp [encodeText, parseLine, htokens, hsort]

/-- With the mnemonic known the operands decide. -/
theorem encodeText_of_sort_ok {T : NameTables} {line m : Text} {ops : List Text} {k : Mnemonic}
    (htokens : tokens line = m :: ops) (hsort : sortMnemonic T m = .ok k) :
    encodeText T line = (operandCall T k ops).map Enc.word := by
  simp [encodeText, parseLine, htokens, hsort]

/-- An accepted line has a mnemonic and operands that make a call of ENC. -/
theorem encodeText_eq_ok {T : NameTables} {line : Text} {w : Word} (h : encodeText T line = .ok w) :
    ∃ m ops k call, tokens line = m :: ops ∧ sortMnemonic T m = .ok k ∧ operandCall T k ops = .ok call ∧
      Enc.word call = w := by
  obtain ⟨call, hparse, hword⟩ := Result.map_eq_ok h
  unfold parseLine at hparse
  split at hparse
  next => cases hparse
  next m ops htokens =>
    obtain ⟨k, hsort, hcall⟩ := Result.bind_eq_ok hparse
    exact ⟨m, ops, k, call, htokens, hsort, hcall, hword⟩

/-- Settles O58: an accepted line's call packs fields that decode gives back, numbers cut to their fields. -/
theorem acceptedTextDecodesToWhatItNames : Obligations.AcceptedTextDecodesToWhatItNames := by
  intro T line w h
  obtain ⟨m, ops, k, call, htokens, hsort, hcall, rfl⟩ := encodeText_eq_ok h
  refine ⟨m, ops, k, htokens, hsort, ?_⟩
  cases k with
  | load c =>
    obtain ⟨r, mem, d, x, b, hops, hd, hmem, hword⟩ := operandCall_load_eq_ok hcall
    rw [hword]
    refine ⟨Dec.classify_of_low7 (Enc.encodeLoad_low7 ..), r, mem, d, x, b, hops, hd, hmem,
      (inputOfInt x).setWidth 12, ?_, toNat_setWidth_inputOfInt (by decide) x⟩
    simp [Dec.decode_encodeLoad]
  | store c =>
    obtain ⟨r, mem, d, x, b, hops, hd, hmem, hword⟩ := operandCall_store_eq_ok hcall
    rw [hword]
    refine ⟨Dec.classify_of_low7 (Enc.encodeStore_low7 ..), r, mem, d, x, b, hops, hd, hmem,
      (inputOfInt x).setWidth 12, ?_, toNat_setWidth_inputOfInt (by decide) x⟩
    simp [Dec.decode_encodeStore]
  | math f =>
    obtain ⟨r1, r2, r3, d, a, b, hops, hd, ha, hb, hword⟩ := operandCall_math_eq_ok hcall
    rw [hword]
    refine ⟨Dec.classify_of_low7 (Enc.encodeMath_low7 ..), r1, r2, r3, d, a, b, hops, hd, ha, hb, ?_⟩
    simp [Dec.decode_encodeMath]
  | constant =>
    obtain ⟨r, val, d, x, hops, hd, hval, hword⟩ := operandCall_constant_eq_ok hcall
    rw [hword]
    refine ⟨Dec.classify_of_low7 (Enc.encodeConstant_low7 ..), r, val, d, x, hops, hd, hval,
      (inputOfInt x).setWidth 20, ?_, toNat_setWidth_inputOfInt (by decide) x⟩
    simp [Dec.decode_encodeConstant]

/-- Settles O56: the mnemonic's error, the count, the first register, and then the operands of each format in turn. -/
theorem textErrorsComeInOrder : Obligations.TextErrorsComeInOrder := by
  intro T line m ops htokens
  refine ⟨fun e => encodeText_of_sort_err htokens, fun k hsort hlength => ?_, fun k hsort hlength => ⟨fun h => ?_,
    fun r e hfirst hr => ?_⟩, ?_, ?_, ?_, ?_⟩
  · rw [encodeText_of_sort_ok htokens hsort, operandCall_of_length_ne T hlength, Result.map_err]
  · rw [encodeText_of_sort_ok htokens hsort] at h
    obtain h | h := operandCall_eq_err hlength (Result.map_eq_err h) <;> cases h
  · rw [encodeText_of_sort_ok htokens hsort, operandCall_of_first_err hlength hfirst hr, Result.map_err]
  · rintro c r mem d hsort rfl hr
    rw [encodeText_of_sort_ok htokens hsort]
    exact ⟨fun e hmem => by simp [operandCall, hr, hmem], fun x b hmem => by simp [operandCall, hr, hmem]; rfl⟩
  · rintro c r mem d hsort rfl hr
    rw [encodeText_of_sort_ok htokens hsort]
    exact ⟨fun e hmem => by simp [operandCall, hr, hmem], fun x b hmem => by simp [operandCall, hr, hmem]; rfl⟩
  · rintro f r1 r2 r3 d hsort rfl hr
    rw [encodeText_of_sort_ok htokens hsort]
    exact ⟨fun e h2 => by simp [operandCall, hr, h2], fun a e h2 h3 => by simp [operandCall, hr, h2, h3],
      fun a b h2 h3 => by simp [operandCall, hr, h2, h3]; rfl⟩
  · rintro r val d hsort rfl hr
    rw [encodeText_of_sort_ok htokens hsort]
    exact ⟨fun hval => by simp [operandCall, hr, hval], fun x hval => by simp [operandCall, hr, hval]; rfl⟩

set_option maxRecDepth 8000 in
/-- Settles O57: the eight lines evaluated with the default tables. -/
theorem encodeTextExamples : Obligations.EncodeTextExamples := by
  unfold Obligations.EncodeTextExamples
  decide

/-- A line without a token fails with a text error, any other as its mnemonic, its count or its operands fail (R175). -/
theorem encodeText_eq_err {T : NameTables} {line : Text} {e : ErrorKind} (h : encodeText T line = .err e) :
    e = .malformedOperand ∨ e = .unknownRegisterName ∨ e = .unknownFunctionName ∨ e = .invalidArgumentCount := by
  cases htokens : tokens line with
  | nil =>
    have hempty : encodeText T line = .err Config.emptyLineError.kind := by simp [encodeText, parseLine, htokens]
    obtain rfl := Result.err.inj (hempty.symm.trans h)
    cases Config.emptyLineError <;> simp [TextErrorKind.kind]
  | cons m ops =>
    cases hsort : sortMnemonic T m with
    | err e' =>
      obtain rfl := Result.err.inj ((encodeText_of_sort_err htokens hsort).symm.trans h)
      simp [sortMnemonic_eq_err hsort]
    | ok k =>
      have hcall := Result.map_eq_err ((encodeText_of_sort_ok htokens hsort).symm.trans h)
      by_cases hlength : ops.length + 1 = k.tokenCount
      · obtain rfl | rfl := operandCall_eq_err hlength hcall <;> simp
      · obtain rfl := Result.err.inj ((operandCall_of_length_ne T hlength).symm.trans hcall)
        simp

theorem decodeChecked_eq_err {w : Word} {e : ErrorKind} (h : Dec.decodeChecked w = .err e) :
    e = .unknownFormat ∨ e = .outOfRange := by
  obtain herr | ⟨b, -, herr⟩ := Result.bind_eq_err h
  · exact .inl (Dec.classify_eq_err_iff.mp (Dec.decode_eq_err_iff.mp herr)).1
  · obtain hok | hrange := Dec.checkWidth_cases b
    · rw [hok] at herr
      cases herr
    · exact .inr (Result.err.inj (herr.symm.trans hrange))

/-- Settles O60: each operation's own errors. -/
theorem textErrorsAriseInTheTextLayerAlone : Obligations.TextErrorsAriseInTheTextLayerAlone := by
  have hdecode {w : Word} {e : ErrorKind} (h : Dec.decode w = .err e) : e = .unknownFormat :=
    (Dec.classify_eq_err_iff.mp (Dec.decode_eq_err_iff.mp h)).1
  refine ⟨fun w e h => ?_, fun w e => decodeChecked_eq_err, fun s t ht => ?_, fun T line e => encodeText_eq_err,
    fun T s e => registerFromName_eq_err, fun T s e => parseMemOperand_eq_err, fun T s e h => ?_⟩
  · exact h.elim (fun hclass => (Dec.classify_eq_err_iff.mp hclass).1) hdecode
  · obtain rfl := step_eq_next_iff.mp ht
    exact ⟨fun e h => h.elim hdecode fun hrecoded => hdecode (Result.map_eq_err hrecoded),
      fun e => decodeChecked_eq_err⟩
  · obtain h | h | h := h
    · exact widthFromSuffix_eq_err h
    · exact functionFromMnemonic_eq_err h
    · exact sortMnemonic_eq_err h

/-- Settles O59: the eight groups written out, each of its four bits. -/
theorem binaryTextGroupsTheBits : Obligations.BinaryTextGroupsTheBits := by
  refine ⟨fun w => ⟨rfl, fun g hg => ?_⟩, fun w => rfl, fun style w => ⟨_, _, _, _, _, _, _, _, rfl, ?_⟩, by decide⟩
  · obtain ⟨k, -, rfl⟩ := List.mem_map.mp hg
    rfl
  · simp [binaryText, binaryGroups, List.range_succ, List.intercalate]

end Sys2Proof.Machine
end

section
/-! The instructions on every state: exec delivers the breakdown, its checked form and its word. -/

namespace Sys2Proof.Machine

/-- exec with the word of the breakdown given. -/
theorem exec_of_breakdown {i : Instr} {b : Breakdown} {checked : Result Breakdown} {w : Word} (s : State)
    (hb : i.breakdown = b) (hchecked : Dec.checkWidth b = checked) (hword : Enc.encode b = w) :
    exec i s = .next { s with decoded := .ok b, checked := checked, recoded := .ok w } := by
  rw [exec_eq, hb, State.deliver, hchecked, hword]

/-- Settles O27: each instruction's breakdown, the width check of its code, and the Load word. -/
theorem loadInstructionsComplete : Obligations.LoadInstructionsComplete := by
  intro s dest base offset
  have hword (k : Code3) := Enc.encode_load k dest base offset
  exact ⟨exec_of_breakdown s rfl rfl (hword 0), exec_of_breakdown s rfl rfl (hword 1),
    exec_of_breakdown s rfl rfl (hword 2), exec_of_breakdown s rfl rfl (hword 3), exec_of_breakdown s rfl rfl (hword 4),
    exec_of_breakdown s rfl rfl (hword 5), exec_of_breakdown s rfl rfl (hword 6), exec_of_breakdown s rfl rfl (hword 7)⟩

/-- Settles O28: each instruction's breakdown, the width check of its code, and the Store word. -/
theorem storeInstructionsComplete : Obligations.StoreInstructionsComplete := by
  intro s source base offset
  have hword (k : Code3) := Enc.encode_store k base source offset
  exact ⟨exec_of_breakdown s rfl rfl (hword 0), exec_of_breakdown s rfl rfl (hword 1),
    exec_of_breakdown s rfl rfl (hword 2), exec_of_breakdown s rfl rfl (hword 3), exec_of_breakdown s rfl rfl (hword 4),
    exec_of_breakdown s rfl rfl (hword 5), exec_of_breakdown s rfl rfl (hword 6), exec_of_breakdown s rfl rfl (hword 7)⟩

/-- Settles O29: each instruction's breakdown, which has no width, and the Math word with its code's `funct7`. -/
theorem mathInstructionsComplete : Obligations.MathInstructionsComplete := by
  intro s dest a b
  have hword (k : Code3) := Enc.encode_math k a b dest
  exact ⟨exec_of_breakdown s rfl rfl (hword 0), exec_of_breakdown s rfl rfl (hword 1),
    exec_of_breakdown s rfl rfl (hword 2), exec_of_breakdown s rfl rfl (hword 3), exec_of_breakdown s rfl rfl (hword 4),
    exec_of_breakdown s rfl rfl (hword 5), exec_of_breakdown s rfl rfl (hword 6), exec_of_breakdown s rfl rfl (hword 7)⟩

/-- Settles O30: the breakdown, which has no width, and the Constant word. -/
theorem luiCompletes : Obligations.LuiCompletes := fun s dest value =>
  exec_of_breakdown s rfl rfl (Enc.encode_constant value dest)

/-- Settles O15: encode's arms, and its word for the written case. -/
theorem encodeDispatchesOnTheFormat : Obligations.EncodeDispatchesOnTheFormat :=
  ⟨fun _ _ _ _ => rfl, fun _ _ _ _ => rfl, fun _ _ _ _ => rfl, fun _ _ => rfl, by decide⟩

/-- Settles O25: the model evaluates each word to its instruction. -/
theorem writtenWordsDecodeToTheirInstructions : Obligations.WrittenWordsDecodeToTheirInstructions := by
  unfold Obligations.WrittenWordsDecodeToTheirInstructions
  decide

/-- The error kinds in the order of their numbers (R171). -/
def errorKinds : List ErrorKind :=
  [.unknownFormat, .outOfRange, .malformedOperand, .unknownRegisterName, .unknownFunctionName, .invalidArgumentCount]

theorem errorKinds_getElem?_code (e : ErrorKind) : errorKinds[e.code.toNat - 1]? = some e := by cases e <;> rfl

/-- Settles O44: the numbers are the definition's, and a number gives its kind back. -/
theorem errorCodesAreNumbered : Obligations.ErrorCodesAreNumbered := by
  refine ⟨rfl, rfl, rfl, rfl, rfl, rfl, fun e e' h => ?_, fun e => ?_⟩
  · rw [← Option.some.injEq, ← errorKinds_getElem?_code, ← errorKinds_getElem?_code, h]
  · cases e <;> decide

end Sys2Proof.Machine
end

section
/-! The opcode map (R44): a row's columns are masks over four places of the word, so its tests are conditions on the
opcode, the code, the low two bits and `funct7`. -/

namespace Sys2Proof

/-- A word with chosen bits in [31:25], [14:12], [6:2] and [1:0], the places the opcode map tests (R44), and zeros
elsewhere. -/
def testWord (top : BitVec 7) (code : Code3) (opcode : BitVec 5) (low : BitVec 2) : Word :=
  top ++ 0#10 ++ code ++ 0#5 ++ opcode ++ low

theorem slices_of_testWord (top : BitVec 7) (code : Code3) (opcode : BitVec 5) (low : BitVec 2) :
    (testWord top code opcode low).extractLsb' 25 7 = top ∧ (testWord top code opcode low).extractLsb' 12 3 = code ∧
    (testWord top code opcode low).extractLsb' 2 5 = opcode ∧ (testWord top code opcode low).extractLsb' 0 2 = low := by
  show (top ++ 0#10 ++ code ++ 0#5 ++ opcode ++ low).extractLsb' 25 7 = _ ∧
    (top ++ 0#10 ++ code ++ 0#5 ++ opcode ++ low).extractLsb' 12 3 = _ ∧
    (top ++ 0#10 ++ code ++ 0#5 ++ opcode ++ low).extractLsb' 2 5 = _ ∧
    (top ++ 0#10 ++ code ++ 0#5 ++ opcode ++ low).extractLsb' 0 2 = _
  simp (disch := decide) only [BitVec.extractLsb'_append_eq_of_le, BitVec.extractLsb'_append_eq_of_add_le,
    Nat.reduceSub, BitVec.extractLsb'_eq_self, and_self]

/-- Six fields under a mask are each under its part of the mask. -/
theorem six_fields_and {n1 n2 n3 n4 n5 n6 : Nat} (a a' : BitVec n1) (b b' : BitVec n2) (c c' : BitVec n3)
    (d d' : BitVec n4) (e e' : BitVec n5) (f f' : BitVec n6) :
    (a ++ b ++ c ++ d ++ e ++ f) &&& (a' ++ b' ++ c' ++ d' ++ e' ++ f') =
      (a &&& a') ++ (b &&& b') ++ (c &&& c') ++ (d &&& d') ++ (e &&& e') ++ (f &&& f') := by
  simp only [BitVec.and_append]

/-- A word under a mask of those places. -/
theorem and_testWord (w : Word) (mtop : BitVec 7) (mcode : Code3) (mopcode : BitVec 5) (mlow : BitVec 2) :
    w &&& testWord mtop mcode mopcode mlow = testWord (w.extractLsb' 25 7 &&& mtop) (w.extractLsb' 12 3 &&& mcode)
      (w.extractLsb' 2 5 &&& mopcode) (w.extractLsb' 0 2 &&& mlow) := by
  have hw : w = (w.extractLsb' 25 7 ++ w.extractLsb' 15 10 ++ w.extractLsb' 12 3 ++ w.extractLsb' 7 5 ++
      w.extractLsb' 2 5 ++ w.extractLsb' 0 2 : Word) := by
    simp only [BitVec.extractLsb'_append_extractLsb'_eq_extractLsb']
    exact BitVec.extractLsb'_eq_self.symm
  conv_lhs => rw [hw]
  refine (six_fields_and ..).trans ?_
  simp only [BitVec.and_zero]
  rfl

/-- The test of the opcode map, place by place. -/
theorem and_testWord_eq_iff {w : Word} {mtop top : BitVec 7} {mcode code : Code3} {mopcode opcode : BitVec 5}
    {mlow low : BitVec 2} : w &&& testWord mtop mcode mopcode mlow = testWord top code opcode low ↔
      w.extractLsb' 25 7 &&& mtop = top ∧ w.extractLsb' 12 3 &&& mcode = code ∧ w.extractLsb' 2 5 &&& mopcode = opcode ∧
      w.extractLsb' 0 2 &&& mlow = low := by
  rw [and_testWord]
  refine ⟨fun h => ?_, ?_⟩
  · obtain ⟨htop, hcode, hopcode, hlow⟩ := slices_of_testWord top code opcode low
    rw [← h] at htop hcode hopcode hlow
    simp only [slices_of_testWord] at htop hcode hopcode hlow
    exact ⟨htop, hcode, hopcode, hlow⟩
  · rintro ⟨rfl, rfl, rfl, rfl⟩
    rfl

/-- The format of a breakdown. -/
def Breakdown.format : Breakdown → Format
  | .load .. => .load
  | .store .. => .store
  | .math .. => .math
  | .constant .. => .constant

/-- What a row tests in [14:12], and under which mask: the code, or nothing for Constant (R44). -/
def Breakdown.codeTest : Breakdown → Code3 × Code3
  | .load width _ _ _ => (width, BitVec.allOnes 3)
  | .store width _ _ _ => (width, BitVec.allOnes 3)
  | .math function _ _ _ => (function, BitVec.allOnes 3)
  | .constant _ _ => (0, 0)

/-- What a row's canonical columns test in [31:25], and under which mask: R93's `funct7` in Math, else nothing (R44). -/
def Breakdown.funct7Test : Breakdown → BitVec 7 × BitVec 7
  | .math function _ _ _ => (Enc.mathFunct7 (function.setWidth 32), BitVec.allOnes 7)
  | _ => (0, 0)

/-- The opcode map's row of a breakdown (R44). -/
def Breakdown.row (b : Breakdown) : OpRow where
  decodeMatch := testWord 0 b.codeTest.1 b.format.opcode 0
  decodeMask := testWord 0 b.codeTest.2 (BitVec.allOnes 5) 0
  canonMatch := testWord b.funct7Test.1 b.codeTest.1 b.format.opcode 0b11
  canonMask := testWord b.funct7Test.2 b.codeTest.2 (BitVec.allOnes 5) (BitVec.allOnes 2)

/-- The map gives an instruction the row of its breakdown. -/
theorem Instr.row_eq (i : Instr) : i.row = i.breakdown.row := by
  cases i <;>
    simp only [Instr.row, Breakdown.row, Instr.breakdown, Breakdown.codeTest, Breakdown.funct7Test,
      Breakdown.format] <;>
    decide

/-- The decode columns test the code and the opcode. -/
theorem Breakdown.hits_row {b : Breakdown} {w : Word} : b.row.hits w = true ↔
    w.extractLsb' 12 3 &&& b.codeTest.2 = b.codeTest.1 ∧ Dec.classify w = .ok b.format := by
  simp only [OpRow.hits, Breakdown.row, decide_eq_true_eq, and_testWord_eq_iff, BitVec.and_allOnes,
    Dec.classify_eq_ok_iff]
  simp

/-- The canonical columns test that, the low two bits and, in Math, `funct7`. -/
theorem Breakdown.hitsCanonical_row {b : Breakdown} {w : Word} : b.row.hitsCanonical w = true ↔
    b.row.hits w = true ∧ w.extractLsb' 0 2 = 0b11 ∧ w.extractLsb' 25 7 &&& b.funct7Test.2 = b.funct7Test.1 := by
  rw [Breakdown.hits_row, Dec.classify_eq_ok_iff]
  simp only [OpRow.hitsCanonical, Breakdown.row, decide_eq_true_eq, and_testWord_eq_iff, BitVec.and_allOnes]
  tauto

/-- A decoded word passes its breakdown's decode test. -/
theorem Breakdown.hits_row_of_decode {b : Breakdown} {w : Word} (h : Dec.decode w = .ok b) : b.row.hits w = true := by
  rw [Breakdown.hits_row]
  obtain ⟨hclass, rfl⟩ | ⟨hclass, rfl⟩ | ⟨hclass, rfl⟩ | ⟨hclass, rfl⟩ := Dec.decode_eq_ok_cases h
  · exact ⟨BitVec.and_allOnes, hclass⟩
  · exact ⟨BitVec.and_allOnes, hclass⟩
  · exact ⟨BitVec.and_allOnes, hclass⟩
  · exact ⟨BitVec.and_zero, hclass⟩

/-- A word that passes a row's decode test decodes to a breakdown of that row. -/
theorem Breakdown.exists_decode_of_hits_row {b : Breakdown} {w : Word} (h : b.row.hits w = true) :
    ∃ b', Dec.decode w = .ok b' ∧ b'.row = b.row := by
  obtain ⟨hcode, hclass⟩ := Breakdown.hits_row.mp h
  cases b with
  | load =>
    obtain rfl := BitVec.and_allOnes.symm.trans hcode
    exact ⟨_, Dec.decode_of_load hclass, rfl⟩
  | store =>
    obtain rfl := BitVec.and_allOnes.symm.trans hcode
    exact ⟨_, Dec.decode_of_store hclass, rfl⟩
  | math =>
    obtain rfl := BitVec.and_allOnes.symm.trans hcode
    exact ⟨_, Dec.decode_of_math hclass, rfl⟩
  | constant => exact ⟨_, Dec.decode_of_constant hclass, rfl⟩

/-- The canonical test is the decode test on a canonical word (R52). -/
theorem Breakdown.hitsCanonical_row_iff {b : Breakdown} {w : Word} :
    b.row.hitsCanonical w = true ↔ canonical w = true ∧ b.row.hits w = true := by
  rw [Breakdown.hitsCanonical_row, canonical_iff, and_comm, and_congr_left_iff]
  intro hhits
  obtain ⟨hcode, hclass⟩ := Breakdown.hits_row.mp hhits
  rw [and_congr_right_iff]
  intro hlow
  rw [hclass, and_iff_right ⟨_, rfl⟩]
  cases b with
  | math function =>
    obtain rfl := BitVec.and_allOnes.symm.trans hcode
    simp only [Breakdown.funct7Test, Breakdown.format, BitVec.and_allOnes, forall_const]
  | _ => simp [Breakdown.funct7Test, Breakdown.format]

/-- An instruction's word satisfies both of its row's tests. -/
theorem hits_row_encode (i : Instr) : i.row.hits (encode i) = true := by
  rw [Instr.row_eq]
  exact Breakdown.hits_row_of_decode (Dec.decode_encode _)

theorem hitsCanonical_row_encode (i : Instr) : i.row.hitsCanonical (encode i) = true := by
  have hhits := hits_row_encode i
  rw [Instr.row_eq] at hhits ⊢
  exact Breakdown.hitsCanonical_row_iff.mpr ⟨canonical_encode _, hhits⟩

/-- Settles O35: a row's decode test is passed exactly by the words that decode to its row, and its canonical test by
the canonical ones among them. -/
theorem opcodeMapDecidesTheInstruction : Obligations.OpcodeMapDecidesTheInstruction := by
  refine ⟨fun w i h => ?_, fun w i h => ?_, fun i => ⟨hitsCanonical_row_encode i, hits_row_encode i⟩, fun w i h => ?_⟩
  · rw [Instr.row_eq]
    exact Breakdown.hits_row_of_decode (decode_eq_ok h)
  · rw [Instr.row_eq] at h
    obtain ⟨b, hb, hrow⟩ := Breakdown.exists_decode_of_hits_row h
    refine ⟨b.instr, by rw [decode, hb, Result.map_ok], ?_⟩
    rw [Instr.row_eq, Breakdown.instr_breakdown, hrow, Instr.row_eq]
  · rw [Instr.row_eq] at h ⊢
    exact Breakdown.hitsCanonical_row_iff.mp h

end Sys2Proof
end

section
/-! The rules of the instruction families (R110 to R117, R120 to R127, R130 to R137, R140): one lemma per family, used
at each code's row. -/

namespace Sys2Proof.Machine

/-- A word that is `pattern` under a mask has the pattern's slices where the mask covers them. -/
theorem extractLsb'_of_and_eq {w mask pattern : Word} (h : w &&& mask = pattern) {start len : Nat}
    (hmask : mask.extractLsb' start len = BitVec.allOnes len) :
    w.extractLsb' start len = pattern.extractLsb' start len := by
  rw [← h, BitVec.extractLsb'_and, hmask, BitVec.and_allOnes]

/-- A lookup of a width code fails exactly on the reserved ones, and with OutOfRange alone (R153). -/
theorem widthText_code {T : NameTables} (hwf : T.wf = true) (k : Code3) :
    (widthText T k.toNat = .err .outOfRange ↔ k = 3 ∨ k = 6 ∨ k = 7) ∧
      ∀ e, widthText T k.toNat = .err e → e = .outOfRange := by
  by_cases hvalid : widthCodeValid k = true
  · obtain ⟨n, hn⟩ := exists_widthText_of_valid hwf hvalid
    rw [hn]
    refine ⟨iff_of_false (fun h => by cases h) fun hreserved => ?_, fun e h => by cases h⟩
    rw [widthCodeValid_eq_false_iff.mpr hreserved] at hvalid
    cases hvalid
  · have hreserved := widthCodeValid_eq_false_iff.mp (Bool.not_eq_true _ ▸ hvalid)
    have herr : widthText T k.toNat = .err .outOfRange :=
      widthText_of_reserved T (by obtain rfl | rfl | rfl := hreserved <;> decide)
    rw [herr]
    exact ⟨iff_of_true rfl hreserved, fun e h => (Result.err.inj h).symm⟩

/-- An instruction and its breakdown, from the breakdown's side. -/
theorem breakdown_eq_of_instr {i : Instr} {b : Breakdown} (h : b.instr = i) : i.breakdown = b := by
  rw [← h, Breakdown.instr_breakdown]

/-- The instruction of a word's breakdown. -/
theorem decode_of_decode {w : Word} {b : Breakdown} {i : Instr} (h : Dec.decode w = .ok b) (hi : b.instr = i) :
    decode w = .ok i := by
  rw [decode, h, Result.map_ok, hi]

/-- The width of a Load or Store word decides its checked decode (R81). -/
theorem decodeChecked_of_width {w : Word} {k : Code3}
    (hclass : Dec.classify w = .ok .load ∨ Dec.classify w = .ok .store) (hk : w.extractLsb' 12 3 = k) :
    Dec.decodeChecked w = if k = 3 ∨ k = 6 ∨ k = 7 then .err .outOfRange else Dec.decode w := by
  rw [Dec.decodeChecked_of_load_or_store hclass, hk]
  simp only [← widthCodeValid_eq_false_iff]
  cases widthCodeValid k <;> rfl

/-- A Load row whose pattern holds the width code and the Load opcode follows its rule. -/
theorem loadRule {k : Code3} {pattern : Word} {mk : RegIx → RegIx → Offset → Instr}
    (hopcode : pattern.extractLsb' 2 5 = 0x00) (hcode : pattern.extractLsb' 12 3 = k)
    (hmk : ∀ dest base offset, (Breakdown.load k dest base offset).instr = mk dest base offset) :
    LoadRule k pattern mk := by
  refine ⟨fun w hw => ?_, fun dest base offset => ?_, fun T hwf => widthText_code hwf k⟩
  · have hclass : Dec.classify w = .ok .load :=
      Dec.classify_eq_ok_iff.mpr ((extractLsb'_of_and_eq hw rfl).trans hopcode)
    have hk : w.extractLsb' 12 3 = k := (extractLsb'_of_and_eq hw rfl).trans hcode
    have hdecode := Dec.decode_of_load hclass
    rw [hk] at hdecode
    exact ⟨decode_of_decode hdecode (hmk _ _ _), hdecode, decodeChecked_of_width (.inl hclass) hk⟩
  · rw [encode, breakdown_eq_of_instr (hmk dest base offset)]
    exact ⟨Enc.encode_load k dest base offset, rfl⟩

/-- A Store row whose pattern holds the width code and the Store opcode follows its rule. -/
theorem storeRule {k : Code3} {pattern : Word} {mk : RegIx → RegIx → Offset → Instr}
    (hopcode : pattern.extractLsb' 2 5 = 0x08) (hcode : pattern.extractLsb' 12 3 = k)
    (hmk : ∀ source base offset, (Breakdown.store k base source offset).instr = mk source base offset) :
    StoreRule k pattern mk := by
  refine ⟨fun w hw => ?_, fun source base offset => ?_, fun T hwf => widthText_code hwf k⟩
  · have hclass : Dec.classify w = .ok .store :=
      Dec.classify_eq_ok_iff.mpr ((extractLsb'_of_and_eq hw rfl).trans hopcode)
    have hk : w.extractLsb' 12 3 = k := (extractLsb'_of_and_eq hw rfl).trans hcode
    have hdecode := Dec.decode_of_store hclass
    rw [hk] at hdecode
    exact ⟨decode_of_decode hdecode (hmk _ _ _), hdecode, decodeChecked_of_width (.inr hclass) hk⟩
  · rw [encode, breakdown_eq_of_instr (hmk source base offset)]
    exact ⟨Enc.encode_store k base source offset, rfl⟩

/-- An accepted line's Load or Store word has a width code with a width text. -/
theorem widthCodeValid_of_encodeText {T : NameTables} {line : Text} {w : Word} (h : encodeText T line = .ok w)
    (hclass : Dec.classify w = .ok .load ∨ Dec.classify w = .ok .store) :
    widthCodeValid (w.extractLsb' 12 3) = true := by
  obtain ⟨m, ops, k, -, hsort, hformat, hnamed⟩ := acceptedTextDecodesToWhatItNames T line w h
  cases k with
  | load c =>
    obtain ⟨-, -, d, x, b, -, -, -, o, hdecode, -⟩ := hnamed
    obtain ⟨hc, -⟩ := Breakdown.load.inj (Result.ok.inj ((Dec.decode_of_load hformat).symm.trans hdecode))
    rw [hc]
    exact widthCodeValid_of_sortMnemonic (.inl hsort)
  | store c =>
    obtain ⟨-, -, d, x, b, -, -, -, o, hdecode, -⟩ := hnamed
    obtain ⟨hc, -⟩ := Breakdown.store.inj (Result.ok.inj ((Dec.decode_of_store hformat).symm.trans hdecode))
    rw [hc]
    exact widthCodeValid_of_sortMnemonic (.inr hsort)
  | math f => simp [hformat, Mnemonic.format] at hclass
  | constant => simp [hformat, Mnemonic.format] at hclass

/-- Settles O31: the row rule at each code and pattern, inputs of one low field alike, and the codes of the suffixes. -/
theorem loadWordsFollowTheirRules : Obligations.LoadWordsFollowTheirRules := by
  refine ⟨loadRule rfl rfl fun _ _ _ => rfl, loadRule rfl rfl fun _ _ _ => rfl, loadRule rfl rfl fun _ _ _ => rfl,
    loadRule rfl rfl fun _ _ _ => rfl, loadRule rfl rfl fun _ _ _ => rfl, loadRule rfl rfl fun _ _ _ => rfl,
    loadRule rfl rfl fun _ _ _ => rfl, loadRule rfl rfl fun _ _ _ => rfl, by decide, by decide, by decide, by decide,
    by decide, fun dest base offset => ?_, by decide, by decide, by decide, by decide, by decide, by decide, by decide,
    by decide, by decide, by decide, by decide, by decide, by decide, by decide, by decide, by decide, fun s => ?_,
    fun T line w h hclass => widthCodeValid_iff_ne.mp (widthCodeValid_of_encodeText h (.inl hclass))⟩
  · rw [Enc.encodeLoad_eq_append, Enc.encodeLoad_eq_append]
    rfl
  · have hvalid {c : Code3} (h : widthFromSuffix s = .ok c) : widthCodeValid c = true := (of_widthFromSuffix_eq_ok h).2
    exact ⟨fun h => absurd (hvalid h) (by decide), fun h => absurd (hvalid h) (by decide),
      fun h => absurd (hvalid h) (by decide)⟩

/-- Settles O32: the row rule at each code and pattern, and the codes of the suffixes. -/
theorem storeWordsFollowTheirRules : Obligations.StoreWordsFollowTheirRules := by
  refine ⟨storeRule rfl rfl fun _ _ _ => rfl, storeRule rfl rfl fun _ _ _ => rfl, storeRule rfl rfl fun _ _ _ => rfl,
    storeRule rfl rfl fun _ _ _ => rfl, storeRule rfl rfl fun _ _ _ => rfl, storeRule rfl rfl fun _ _ _ => rfl,
    storeRule rfl rfl fun _ _ _ => rfl, storeRule rfl rfl fun _ _ _ => rfl, ?_⟩
  refine ⟨by decide, by decide, by decide, by decide, by decide, by decide, by decide, by decide, by decide, by decide,
    by decide, by decide, by decide, by decide, by decide, by decide, by decide, by decide, by decide, by decide,
    by decide, by decide, by decide, by decide, by decide, by decide,
    fun T line w h hclass => widthCodeValid_iff_ne.mp (widthCodeValid_of_encodeText h (.inr hclass))⟩

/-! ### Math and Constant rows -/

/-- A function input whose low bits are a code with `funct7` 0x20 is none of 0, 1 and 5. -/
theorem mathFunct7_of_setWidth {function : BitVec 32} (h : Enc.mathFunct7 ((function.setWidth 3).setWidth 32) = 0x20) :
    Enc.mathFunct7 function = 0x20 := by
  refine if_neg ?_
  rintro (rfl | rfl | rfl) <;> exact absurd h (by decide)

/-- A Math row whose pattern holds the function code and the Math opcode follows its rule. -/
theorem mathRule {k : Code3} {pattern canonPattern : Word} {canon7 : BitVec 7} {mk : RegIx → RegIx → RegIx → Instr}
    (hopcode : pattern.extractLsb' 2 5 = 0x0C) (hcode : pattern.extractLsb' 12 3 = k)
    (hfunct7 : Enc.mathFunct7 (k.setWidth 32) = canon7)
    (hmk : ∀ dest a b, (Breakdown.math k a b dest).instr = mk dest a b)
    (hrow : ∀ dest a b, (mk dest a b).row = ⟨pattern, 0x0000707C, canonPattern, 0xFE00707F⟩) :
    MathRule k pattern canonPattern canon7 mk := by
  refine ⟨fun w hw => ?_, fun dest a b => ⟨?_, ?_, ?_⟩, fun h20 function a b dest hfunction => ?_, fun T hwf =>
    (exists_functionName hwf k.isLt).imp fun _ => And.right⟩
  · have hclass : Dec.classify w = .ok .math :=
      Dec.classify_eq_ok_iff.mpr ((extractLsb'_of_and_eq hw rfl).trans hopcode)
    have hk : w.extractLsb' 12 3 = k := (extractLsb'_of_and_eq hw rfl).trans hcode
    have hdecode := Dec.decode_of_math hclass
    rw [hk] at hdecode
    exact ⟨decode_of_decode hdecode (hmk _ _ _), hdecode, Dec.decodeChecked_of_math_or_constant (.inl hclass)⟩
  · rw [encode, breakdown_eq_of_instr (hmk dest a b), Enc.encode_math, hfunct7]
  · have hcanonical := hitsCanonical_row_encode (mk dest a b)
    rw [hrow] at hcanonical
    exact of_decide_eq_true hcanonical
  · rw [encode, breakdown_eq_of_instr (hmk dest a b)]
    rfl
  · rw [Enc.encodeMath_funct7]
    exact mathFunct7_of_setWidth (by rw [hfunction, hfunct7, h20])

/-- Settles O33: the row rule at each code and pattern, and the model's words for the written cases. -/
theorem mathWordsFollowTheirRules : Obligations.MathWordsFollowTheirRules := by
  refine ⟨mathRule rfl rfl rfl (fun _ _ _ => rfl) fun _ _ _ => rfl,
    mathRule rfl rfl rfl (fun _ _ _ => rfl) fun _ _ _ => rfl,
    mathRule rfl rfl rfl (fun _ _ _ => rfl) fun _ _ _ => rfl,
    mathRule rfl rfl rfl (fun _ _ _ => rfl) fun _ _ _ => rfl,
    mathRule rfl rfl rfl (fun _ _ _ => rfl) fun _ _ _ => rfl,
    mathRule rfl rfl rfl (fun _ _ _ => rfl) fun _ _ _ => rfl,
    mathRule rfl rfl rfl (fun _ _ _ => rfl) fun _ _ _ => rfl,
    mathRule rfl rfl rfl (fun _ _ _ => rfl) fun _ _ _ => rfl, ?_⟩
  decide

/-- A word `lui` is decoded from has the Constant opcode. -/
theorem classify_of_decode_lui {w : Word} {d : RegIx} {v : Value} (h : decode w = .ok (.lui d v)) :
    Dec.classify w = .ok .constant :=
  (Breakdown.hits_row.mp (Breakdown.hits_row_of_decode (decode_eq_ok h))).2

/-- Settles O34: the slices of a Constant word; its opcode over its low two bits is the least such a word can be. -/
theorem constantWordsFollowTheirRule : Obligations.ConstantWordsFollowTheirRule := by
  have hopcode {w : Word} {d : RegIx} {v : Value} (h : decode w = .ok (.lui d v)) : w.toNat / 4 % 32 = 13 := by
    have hslice := congrArg BitVec.toNat (Dec.classify_eq_ok_iff.mp (classify_of_decode_lui h))
    rwa [BitVec.extractLsb'_toNat, Nat.shiftRight_eq_div_pow] at hslice
  refine ⟨fun w hw => ?_, fun dest value => ⟨Enc.encode_constant value dest, ?_⟩, fun _ _ => rfl, by decide, by decide,
    by decide, by decide, by decide, by decide, by decide, by decide, by decide, fun w d v h => ?_,
    fun w d v h hcanonical => ?_, by decide, by decide, by decide⟩
  · have hclass : Dec.classify w = .ok .constant := Dec.classify_eq_ok_iff.mpr (extractLsb'_of_and_eq hw rfl)
    have hdecode := Dec.decode_of_constant hclass
    exact ⟨decode_of_decode hdecode rfl, hdecode, Dec.decodeChecked_of_math_or_constant (.inr hclass)⟩
  · exact of_decide_eq_true (hitsCanonical_row_encode (.lui dest value))
  · have hw := hopcode h
    omega
  · obtain ⟨hlow, -, -⟩ := canonical_iff.mp hcanonical
    have hlow' : w.toNat % 4 = 3 := by
      have hslice := congrArg BitVec.toNat hlow
      rwa [BitVec.extractLsb'_toNat, Nat.shiftRight_zero] at hslice
    have hw := hopcode h
    omega

end Sys2Proof.Machine
end
